-- ==== Sys2Proof/Word.lean ====
section
/-! DEFINITION. The two word types of the engine (rule R8 and rule R10: every internal value is a byte, a 32-bit
argument, a natural number or an enumeration; all values are unsigned). -/

namespace Sys2Proof

/-- u8: one byte on the bus or in the block buffer (rule R10). -/
abbrev Byte := BitVec 8

/-- u32: a command argument or a card address (rule R10). -/
abbrev Word32 := BitVec 32

end Sys2Proof
end

