-- ==== Sys2Proof/Config.lean ====
section
/-! DEFINITION. The parameters of rules R6 and R7, and the two free values the environment supplies.
A `Config` is plain data carried by the state and written by no step (rule R20), so that every statement over all
states is a statement over all configurations. -/

namespace Sys2Proof

/-- The six commands of rule R75. -/
inductive Cmd where
  | cmd0
  | cmd8
  | cmd55
  | acmd41
  | cmd58
  | cmd17
  deriving DecidableEq, Repr

/-- The two host operations of rule R14. -/
inductive Operation where
  | init
  | readBlock
  deriving DecidableEq, Repr

/-- R6 `DATA_TOKEN`: the single-block data-start token. -/
abbrev dataToken : Byte := 0xFE#8

/-- R6 `FILLER`: the byte sent when the engine only receives. -/
abbrev filler : Byte := 0xFF#8

/-- R6 `CHECK_PATTERN`: the value required in R3 byte 4 after CMD8. -/
abbrev checkPattern : Byte := 0xAA#8

/-- One command template (rules R76 and R77): the argument and the 7-bit CRC. The index is fixed by the command. -/
structure Template where
  arg : Word32
  crc : BitVec 7
  deriving DecidableEq, Repr

/-- The six immutable templates (rules R64, R75). -/
structure Templates where
  cmd0 : Template
  cmd8 : Template
  cmd55 : Template
  acmd41 : Template
  cmd58 : Template
  cmd17 : Template
  deriving DecidableEq, Repr

/-- The open parameters of rule R7. A limit of `none` is the unbounded loop (rule R9). -/
structure Config where
  /-- `N_DUMMY_BYTES`, at least 10. -/
  nDummyBytes : Nat
  /-- `T_STAB_MS`, carried by `DELAY_MS` only. -/
  tStabMs : Nat
  /-- `FAST_PROFILE`, an opaque profile value carried by `SET_PROFILE(Fast)` only. -/
  fastProfile : Nat
  /-- `TEMPLATE_ARG` and `TEMPLATE_CRC`. -/
  templates : Templates
  /-- `READY_LIMIT`. -/
  readyLimit : Option Nat
  /-- `ACMD41_LIMIT`. -/
  acmd41Limit : Option Nat
  /-- `TOKEN_LIMIT`. -/
  tokenLimit : Option Nat
  /-- `ADDR_BITS`. -/
  addrBits : Nat
  /-- `BUF`, the base address of the caller's block buffer. -/
  buf : Nat
  deriving DecidableEq, Repr

/-- The template of a command. -/
def Templates.get (t : Templates) : Cmd → Template
  | .cmd0 => t.cmd0
  | .cmd8 => t.cmd8
  | .cmd55 => t.cmd55
  | .acmd41 => t.acmd41
  | .cmd58 => t.cmd58
  | .cmd17 => t.cmd17

/-- The templates with one command's template replaced. -/
def Templates.set (t : Templates) (c : Cmd) (v : Template) : Templates :=
  match c with
  | .cmd0 => { t with cmd0 := v }
  | .cmd8 => { t with cmd8 := v }
  | .cmd55 => { t with cmd55 := v }
  | .acmd41 => { t with acmd41 := v }
  | .cmd58 => { t with cmd58 := v }
  | .cmd17 => { t with cmd17 := v }

/-- `TEMPLATE_ARG(c)`. -/
def Config.templateArg (cfg : Config) (c : Cmd) : Word32 := (cfg.templates.get c).arg

/-- `TEMPLATE_CRC(c)`. -/
def Config.templateCrc (cfg : Config) (c : Cmd) : BitVec 7 := (cfg.templates.get c).crc

/-- The default templates of rules R76 and R77. -/
def Templates.standard : Templates where
  cmd0 := ⟨0x00000000#32, 0x4A#7⟩
  cmd8 := ⟨0x000001AA#32, 0x43#7⟩
  cmd55 := ⟨0x00000000#32, 0x32#7⟩
  acmd41 := ⟨0x40000000#32, 0x3B#7⟩
  cmd58 := ⟨0x00000000#32, 0x7E#7⟩
  cmd17 := ⟨0x00000000#32, 0x2A#7⟩

/-- The configuration of `State.reset`: the defaults of rule R7, the source-compatible limits of rule R14, and, where
rule R7 says OPEN, values that log entry 3 names (DESIGN CHOICE, unsafe). No statement rests on the latter: statements
range over every configuration. -/
def Config.standard : Config where
  nDummyBytes := 10
  tStabMs := 0
  fastProfile := 0
  templates := Templates.standard
  readyLimit := none
  acmd41Limit := none
  tokenLimit := none
  addrBits := 32
  buf := 0

/-- FREE VALUE (log entry 5): the byte the card oracle answers to the exchange with this number, where the state's
script of answers is used up. Any of the 256 values is admitted (rules R36 and R101). -/
opaque Config.cardByte : Nat → Byte

/-- FREE VALUE (log entry 5): the answer of `CARD_PRESENT()` with this number, where the state's script of answers is
used up (rule R108). -/
opaque Config.cardPresent : Nat → Bool

end Sys2Proof
end

