-- ==== Sys2Proof/Syntax.lean ====
section
/-! DEFINITION. The instructions: one constructor per row of spec/opcode_table.json. Six command frames the engine
emits (rule R75) and two requests the host issues (rule R85). Every field of an encoding is an operand, so that no bit
of a word is dropped. -/

namespace Sys2Proof

/-- One constructor per row of the opcode table. `arg` is frame bits 39:8 and `crc` frame bits 7:1 (rule R70). -/
inductive Instr where
  /-- GO_IDLE_STATE, rule R136. -/
  | cmd0 (arg : Word32) (crc : BitVec 7)
  /-- SEND_IF_COND, rule R137. -/
  | cmd8 (arg : Word32) (crc : BitVec 7)
  /-- APP_CMD, rule R138. -/
  | cmd55 (arg : Word32) (crc : BitVec 7)
  /-- SD_SEND_OP_COND, rule R139. -/
  | acmd41 (arg : Word32) (crc : BitVec 7)
  /-- READ_OCR, rule R140. -/
  | cmd58 (arg : Word32) (crc : BitVec 7)
  /-- READ_SINGLE_BLOCK, rule R141. -/
  | cmd17 (arg : Word32) (crc : BitVec 7)
  /-- INIT, rule R170; `addr` is request bits 31:0, which rule R85 says are ignored. -/
  | init (addr : Word32)
  /-- READ_BLOCK, rule R210. -/
  | readBlock (addr : Word32)
  deriving DecidableEq, Repr

/-- The frame instruction of a command. -/
def Instr.command : Cmd → Word32 → BitVec 7 → Instr
  | .cmd0 => .cmd0
  | .cmd8 => .cmd8
  | .cmd55 => .cmd55
  | .acmd41 => .acmd41
  | .cmd58 => .cmd58
  | .cmd17 => .cmd17

end Sys2Proof
end

