-- ==== Sys2Proof/WellFormed.lean ====
section
/-! DEFINITION. What makes a configuration and an instruction well formed. -/

namespace Sys2Proof

/-- A limit is `none` or `some L` with L ≥ 1 (rule R7). -/
def limitOk : Option Nat → Bool
  | none => true
  | some l => decide (1 ≤ l)

/-- The constraints rules R7 and R76 put on the parameters: at least 10 dummy bytes (80 clock cycles, not
below the 74 of rule R6's `DUMMY_CLOCKS_MIN`), limits of at least 1, a check pattern of `0xAA` in the low byte of CMD8's argument, and an address no wider than CMD17's 32-bit argument (rule R219). -/
def Config.wellFormed (cfg : Config) : Bool :=
  decide (10 ≤ cfg.nDummyBytes) && limitOk cfg.readyLimit && limitOk cfg.acmd41Limit && limitOk cfg.tokenLimit
    && decide ((cfg.templateArg .cmd8).extractLsb' 0 8 = checkPattern) && decide (cfg.addrBits ≤ 32)

/-- A frame the engine emits under a configuration: the CRC is the template's (rule R79), and so is the argument of
every command but CMD17 (rule R120). -/
def frameOk (cfg : Config) (c : Cmd) (arg : Word32) (crc : BitVec 7) : Bool :=
  decide (crc = cfg.templateCrc c) && (decide (c = .cmd17) || decide (arg = cfg.templateArg c))

/-- A READ_BLOCK address fits in `ADDR_BITS` bits (rule R84). -/
def addrOk (cfg : Config) (addr : Word32) : Bool := decide (addr.toNat < 2 ^ cfg.addrBits)

/-- The instructions this hardware forms under a configuration. Every INIT request is one (its address is ignored). -/
def Instr.wellFormed (cfg : Config) : Instr → Bool
  | .cmd0 arg crc => frameOk cfg .cmd0 arg crc
  | .cmd8 arg crc => frameOk cfg .cmd8 arg crc
  | .cmd55 arg crc => frameOk cfg .cmd55 arg crc
  | .acmd41 arg crc => frameOk cfg .acmd41 arg crc
  | .cmd58 arg crc => frameOk cfg .cmd58 arg crc
  | .cmd17 arg crc => frameOk cfg .cmd17 arg crc
  | .init _ => true
  | .readBlock addr => addrOk cfg addr

end Sys2Proof
end

