-- ==== Sys2Proof/Decode.lean ====
section
/-! DEFINITION. The decoder, total on any word or bytes and rejecting by name (rules R70, R85, R86), and the encoder
written from the same tables. -/

namespace Sys2Proof

/-- The two word formats of the opcode table: a 48-bit command frame and a 34-bit host request. -/
inductive CodeWord where
  | frame (w : BitVec 48)
  | request (w : BitVec 34)
  deriving DecidableEq, Repr

/-- Why a word is no instruction. -/
inductive DecodeError where
  /-- Bits 47:46 are not `01` (rule R86). -/
  | badStart
  /-- Bit 0 is not `1` (rule R86). -/
  | badStop
  /-- An index no template carries (rule R86). -/
  | unknownIndex (idx : BitVec 6)
  /-- Not six bytes (rule R73). -/
  | frameLength (n : Nat)
  /-- `op = 00`: no request (rule R85). -/
  | noRequest
  /-- `op = 11`: reserved (rule R85). -/
  | reservedRequest
  deriving DecidableEq, Repr

/-- The command index of rule R75. -/
def Cmd.index : Cmd → BitVec 6
  | .cmd0 => 0#6
  | .cmd8 => 8#6
  | .cmd55 => 55#6
  | .acmd41 => 41#6
  | .cmd58 => 58#6
  | .cmd17 => 17#6

/-- The command that carries an index, if one does (rules R75 and R86). -/
def commandOfIndex (idx : BitVec 6) : Option Cmd :=
  if idx = 0#6 then some .cmd0
  else if idx = 8#6 then some .cmd8
  else if idx = 55#6 then some .cmd55
  else if idx = 41#6 then some .acmd41
  else if idx = 58#6 then some .cmd58
  else if idx = 17#6 then some .cmd17
  else none

/-- A 48-bit command frame (rules R70 and R86). -/
def decodeFrame (w : BitVec 48) : Except DecodeError Instr :=
  if w.extractLsb' 46 2 ≠ 0b01#2 then .error .badStart
  else if w.extractLsb' 0 1 ≠ 1#1 then .error .badStop
  else match commandOfIndex (w.extractLsb' 40 6) with
    | some c => .ok (Instr.command c (w.extractLsb' 8 32) (w.extractLsb' 1 7))
    | none => .error (.unknownIndex (w.extractLsb' 40 6))

/-- A 34-bit host request (rule R85). -/
def decodeRequest (w : BitVec 34) : Except DecodeError Instr :=
  if w.extractLsb' 32 2 = 0b01#2 then .ok (.init (w.extractLsb' 0 32))
  else if w.extractLsb' 32 2 = 0b10#2 then .ok (.readBlock (w.extractLsb' 0 32))
  else if w.extractLsb' 32 2 = 0b00#2 then .error .noRequest
  else .error .reservedRequest

/-- The decoder on either format. -/
def decode : CodeWord → Except DecodeError Instr
  | .frame w => decodeFrame w
  | .request w => decodeRequest w

/-- The frame word with these fields (rule R70). -/
def frameWord (idx : BitVec 6) (arg : Word32) (crc : BitVec 7) : BitVec 48 :=
  0b01#2 ++ idx ++ arg ++ crc ++ 1#1

/-- The request word with these fields (rule R85). -/
def requestWord (op : BitVec 2) (addr : Word32) : BitVec 34 := op ++ addr

/-- The encoder: the word of an instruction. -/
def encode : Instr → CodeWord
  | .cmd0 arg crc => .frame (frameWord Cmd.cmd0.index arg crc)
  | .cmd8 arg crc => .frame (frameWord Cmd.cmd8.index arg crc)
  | .cmd55 arg crc => .frame (frameWord Cmd.cmd55.index arg crc)
  | .acmd41 arg crc => .frame (frameWord Cmd.acmd41.index arg crc)
  | .cmd58 arg crc => .frame (frameWord Cmd.cmd58.index arg crc)
  | .cmd17 arg crc => .frame (frameWord Cmd.cmd17.index arg crc)
  | .init addr => .request (requestWord 0b01#2 addr)
  | .readBlock addr => .request (requestWord 0b10#2 addr)

/-- The six bytes of a frame in wire order, most significant first (rules R55 and R70). -/
def wireBytes (w : BitVec 48) : List Byte :=
  [w.extractLsb' 40 8, w.extractLsb' 32 8, w.extractLsb' 24 8, w.extractLsb' 16 8, w.extractLsb' 8 8, w.extractLsb' 0 8]

/-- The frame word of six bytes in wire order; any other number of bytes is no frame (rule R73). -/
def frameOfBytes : List Byte → Except DecodeError (BitVec 48)
  | [b0, b1, b2, b3, b4, b5] => .ok (b0 ++ b1 ++ b2 ++ b3 ++ b4 ++ b5)
  | bs => .error (.frameLength bs.length)

/-- A command frame from its bytes in wire order. -/
def decodeBytes (bs : List Byte) : Except DecodeError Instr :=
  match frameOfBytes bs with
  | .ok w => decodeFrame w
  | .error e => .error e

/-- The instruction of a decoding, if it is one. -/
def decodedInstr : Except DecodeError Instr → Option Instr
  | .ok i => some i
  | .error _ => none

/-- The word format of an opcode-table row with `nbits` bits: a frame is 48 bits, a request 34 (in whole bytes, 40). A
word with a bit above its format is no word of the table. -/
def tableCodeWord (nbits w : Nat) : Option CodeWord :=
  if 40 < nbits ∧ nbits ≤ 48 then
    if w < 2 ^ 48 then some (.frame (BitVec.ofNat 48 w)) else none
  else if 32 < nbits ∧ nbits ≤ 40 then
    if w < 2 ^ 34 then some (.request (BitVec.ofNat 34 w)) else none
  else none

/-- The instruction the decoder reads from a word numbered as spec/opcode_table.json numbers it. A frame is laid out as
its six wire bytes first; a request is the word on the host's port (it has no bytes). -/
def decodeTableWord (nbits w : Nat) : Option Instr :=
  match tableCodeWord nbits w with
  | some (.frame v) => decodedInstr (decodeBytes (wireBytes v))
  | some (.request v) => decodedInstr (decodeRequest v)
  | none => none

end Sys2Proof
end

