-- ==== Sys2Proof/Machine/State.lean ====
section
/-! DEFINITION. The machine's state as plain data (10_state.md), the stops, and the state after reset (rule R39). -/

namespace Sys2Proof.Machine

/-- The error kinds of rule R25 with codes 1 to 7. -/
inductive ErrorKind where
  | cardAbsent
  | resetFailed
  | verificationFailed
  /-- Code 4, which nothing produces (rule R231). -/
  | initializationFailed
  | capacityCheckFailed
  | responseTimeout
  | readFailed
  deriving DecidableEq, Repr

/-- The result of an operation (rule R33). -/
inductive Result where
  | ok
  | fail (k : ErrorKind)
  deriving DecidableEq, Repr

/-- The card session state (rule R23). -/
inductive Session where
  | noCard
  | poweredOn
  | reset
  | verified
  | initialized
  | ready
  | failed
  deriving DecidableEq, Repr

/-- The clock profile (rule R35). -/
inductive Profile where
  | unconfigured
  | slow
  | fast
  deriving DecidableEq, Repr

/-- The chip-select mode (rule R37). -/
inductive CsMode where
  | unconfigured
  | manual
  | hardware
  deriving DecidableEq, Repr

/-- The chip-select level (rule R37); `low` is the asserted level. -/
inductive CsLevel where
  | undriven
  | high
  | low
  deriving DecidableEq, Repr

/-- The five bytes of an R3 response (rule R28), each empty until something writes it (log entry 12). -/
structure R3 where
  b0 : Option Byte
  b1 : Option Byte
  b2 : Option Byte
  b3 : Option Byte
  b4 : Option Byte
  deriving DecidableEq, Repr

/-- The sequencer phase (rule R21). `bData` and `bWrite` are the two halves of `B_Data(i)`, the exchange and the buffer
write, which rule R21 lets a model split (log entry 11). The ranges are rule R6's: 3 is `FLUSH_COUNT`, 8 is
`R1_POLL_LIMIT`, 512 is `BLOCK_SIZE` and 2 is `BLOCK_CRC_BYTES`. -/
inductive Phase where
  | idle
  | iDetect
  | iGpio
  | iSlow
  | iCsHigh
  | iDummy (j : Nat)
  | iDelay
  | iCsLow
  | iFlush (j : Fin 3)
  | sReady (c : Cmd) (n : Nat)
  | sFrame (c : Cmd) (j : Fin 6)
  | pR1 (c : Cmd) (k : Fin 8)
  | pR3 (c : Cmd) (i : Fin 5)
  | tToken (n : Nat)
  | bData (i : Fin 512)
  | bWrite (i : Fin 512) (v : Byte)
  | bCrc (j : Fin 2)
  | iFast
  | iHandoff
  | done (res : Result)
  deriving DecidableEq, Repr

/-- What `SET_PROFILE` selects: `Slow`, or `Fast` with the configuration's `FAST_PROFILE` (rule R105). -/
inductive ProfileSel where
  | slow
  | fast (setting : Nat)
  deriving DecidableEq, Repr

/-- What the host may read (rule R40). -/
structure HostView where
  busy : Bool
  sess : Session
  err : Option ErrorKind
  ok : Bool
  r1 : Option Byte
  r1Valid : Option Bool
  r3 : R3
  profile : Profile
  csMode : CsMode
  deriving DecidableEq, Repr

/-- A recorded bus event (rules R11 and R112). -/
inductive Event where
  | xfer (tx rx : Byte) (profile : Profile) (csMode : CsMode) (csLevel : CsLevel)
  | csDrive (level : CsLevel)
  | csHandoff
  | setProfile (sel : ProfileSel)
  | gpioConfigure
  | delayMs (n : Nat)
  | cardPresent (b : Bool)
  | memWrite (i : Fin 512) (v : Byte)
  | complete (res : Result) (ok : Bool) (view : HostView)
  deriving DecidableEq, Repr

/-- The answer to an exchange: the byte shifted in (rule R101), or none ever (rule R111). -/
inductive Answer where
  | byte (rx : Byte)
  | never
  deriving DecidableEq, Repr

/-- What the host does at its port at one step: it presents a request word (rule R85; `op = 00` is no request), it waits
until the engine is idle (rule R89: "Each runs to its `COMPLETE` before the next is issued"), or it asserts the engine
reset (rule R260). -/
inductive HostMove where
  | present (req : BitVec 34)
  | awaitDone
  | reset
  deriving DecidableEq, Repr

/-- Host memory: (address, byte) pairs with addresses strictly rising. An unlisted address holds no byte
(log entry 14). -/
abbrev Memory := List Host.Cell

/-- The state. The first eleven fields are exactly rule R20's engine state; the others are the environment the engine
is run in: the host's memory (rule R50), the configuration (rules R7 and R20), the host's port (rule R100), the card and
card-detect oracles (rules R36 and R108) and the event history (rule R102). -/
structure State where
  /-- The sequencer phase (rule R21). -/
  pc : Phase
  /-- The card session state (rule R23). -/
  sess : Session
  /-- The error kind of the most recently completed operation; `none` is code 0, None (rule R25). -/
  err : Option ErrorKind
  /-- The byte the most recent R1 poll returned (rule R26). -/
  r1 : Option Byte
  /-- Whether that byte has bit 7 clear (rule R27). -/
  r1Valid : Option Bool
  /-- The most recent R3 response (rule R28). -/
  r3 : R3
  /-- The argument of the command being framed (rule R32). -/
  cmdArg : Word32
  /-- The completed rounds of the ACMD41 loop (rule R31). Outside the loop its value is unspecified; that it then keeps
  the last count is DESIGN CHOICE, unsafe (log entry 21; at reset, log entry 2). -/
  it : Nat
  /-- The clock profile (rule R35). -/
  profile : Profile
  /-- The chip-select mode (rule R37). -/
  csMode : CsMode
  /-- The chip-select level (rule R37). -/
  csLevel : CsLevel
  /-- The host memory that holds the block buffer (rule R50). -/
  mem : Memory
  /-- The parameters, which no step writes (rules R7 and R20). -/
  cfg : Config
  /-- What the host does at its port from now on, one entry a step (rule R100). -/
  port : List HostMove
  /-- The card's answers to the exchanges from now on (rule R36); past its end the free value answers. -/
  card : List Answer
  /-- The answers of the card-detect line from now on (rule R108); past its end the free value answers. -/
  detect : List Bool
  /-- THE MODEL'S OWN: how many answers the oracles have given; the free values are applied to it. -/
  oracleIx : Nat
  /-- The recorded events, newest first (rules R102 and R112). -/
  history : List Event
  deriving DecidableEq, Repr

/-- The faults of rules R240 and R111. Each is safe: a run that reaches one proves nothing more. -/
inductive Fault where
  /-- READ_BLOCK requested while `sess ≠ Ready` (rule R240). Raised by `execReadBlock`. Safe. -/
  | notReady
  /-- A request while `pc ≠ Idle` (rule R240). Raised by `presented`, `execInit` and `execReadBlock`. Safe. -/
  | hostOverlap
  /-- A check reads an empty response register (rule R240). Raised by `checkVerify` and `checkOcr`. Safe. -/
  | unwrittenRead
  /-- The transport never completes the exchange: the engine is stuck in its phase (rule R111). Raised by `xfer`. Safe. -/
  | transferStuck
  deriving DecidableEq, Repr

/-- The refusals. Each is safe: a refused run proves nothing more. -/
inductive Refusal where
  /-- An instruction with no meaning yet: no arm of `exec` is one. Safe. -/
  | notModelled (mnemonic : String)
  /-- A request with `op = 11` (rule R241). Raised by `presented`. Safe. -/
  | reservedRequest
  /-- The word the step runs is no instruction. `running` would raise it, and never does. Safe. -/
  | undecodable (e : DecodeError)
  deriving DecidableEq, Repr

/-- An R3 register nothing has written. -/
def R3.empty : R3 := ⟨none, none, none, none, none⟩

/-- The registers of rule R39 at their reset values, in a configuration. `cmd_arg` and `it`, which rule R39 leaves
unspecified, are 0 (log entry 2, DESIGN CHOICE). Nothing is scripted, recorded or written in memory. -/
def State.resetWith (cfg : Config) : State where
  pc := .idle
  sess := .noCard
  err := none
  r1 := none
  r1Valid := none
  r3 := R3.empty
  cmdArg := 0#32
  it := 0
  profile := .unconfigured
  csMode := .unconfigured
  csLevel := .undriven
  mem := []
  cfg := cfg
  port := []
  card := []
  detect := []
  oracleIx := 0
  history := []

/-- The machine right after reset (rule R39), in the standard configuration (log entry 3). -/
def State.reset : State := State.resetWith Config.standard

end Sys2Proof.Machine
end

