-- ==== Sys2Proof/Machine/Flags.lean ====
section
/-! DEFINITION. The bits and values the rules test (rule R29). The engine has no flag register: each is computed from a
received byte. -/

namespace Sys2Proof.Machine

/-- The idle flag, bit 0 of an R1 (rule R29). -/
def idleFlag (r1 : Byte) : Bool := r1.getLsbD 0

/-- An R1 is valid where bit 7 is clear (rule R29). -/
def validR1 (rx : Byte) : Bool := !rx.getLsbD 7

/-- CCS, bit 6 of R3 byte 1 (rule R29, 90_conflicts.md C2). -/
def ccsFlag (ocr1 : Byte) : Bool := ocr1.getLsbD 6

/-- The code of `err` (rule R25). -/
def errCode : Option ErrorKind → Nat
  | none => 0
  | some .cardAbsent => 1
  | some .resetFailed => 2
  | some .verificationFailed => 3
  | some .initializationFailed => 4
  | some .capacityCheckFailed => 5
  | some .responseTimeout => 6
  | some .readFailed => 7

/-- A bound is reached by the count `n` (rules R121, R155 and R177): only under `some L`, at `n ≥ L`. -/
def limitReached : Option Nat → Nat → Bool
  | none, _ => false
  | some l, n => decide (l ≤ n)

/-- `ok` of a result (rule R33). -/
def Result.isOk : Result → Bool
  | .ok => true
  | .fail _ => false

end Sys2Proof.Machine
end

