-- ==== Sys2Proof/Machine/Operands.lean ====
section
/-! DEFINITION. The operands: the bytes of a command frame (rule R123) and the READ_BLOCK address (rule R84). -/

namespace Sys2Proof.Machine

/-- Byte 0 of a frame: `0x40 | idx` (rule R71). -/
def startByte (idx : BitVec 6) : Byte := 0x40#8 ||| idx.setWidth 8

/-- Byte 5 of a frame: `((crc << 1) | 1)[7:0]` (rule R72). -/
def stopByte (crc : BitVec 7) : Byte := (crc.setWidth 8 <<< 1) ||| 1#8

/-- `frame(c, a)[j]` (rule R123), with the CRC field as an operand. -/
def frameByte (c : Cmd) (arg : Word32) (crc : BitVec 7) (j : Fin 6) : Byte :=
  match j with
  | 0 => startByte c.index
  | 1 => arg.extractLsb' 24 8
  | 2 => arg.extractLsb' 16 8
  | 3 => arg.extractLsb' 8 8
  | 4 => arg.extractLsb' 0 8
  | 5 => stopByte crc

/-- `zext_32(addr)` of an `ADDR_BITS`-wide address (rules R84 and R219): the low `ADDR_BITS` bits of the request's field
(log entry 17). At the default of 32 bits it is the identity. -/
def addressArg (addrBits : Nat) (addr : Word32) : Word32 := BitVec.ofNat 32 (addr.toNat % 2 ^ addrBits)

/-- Which operation a command belongs to (rule R22). -/
def operationOf : Cmd → Operation
  | .cmd17 => .readBlock
  | _ => .init

/-- Which command's phase it is, if it is one's. -/
def Phase.command? : Phase → Option Cmd
  | .sReady c _ | .sFrame c _ | .pR1 c _ | .pR3 c _ => some c
  | _ => none

/-- Which operation is running, read off the phase (rule R22). `Done` ends either, so it names none. -/
def Phase.operation? : Phase → Option Operation
  | .idle | .done _ => none
  | .sReady c _ | .sFrame c _ | .pR1 c _ | .pR3 c _ => some (operationOf c)
  | .tToken _ | .bData _ | .bWrite _ _ | .bCrc _ => some .readBlock
  | .iDetect | .iGpio | .iSlow | .iCsHigh | .iDummy _ | .iDelay | .iCsLow | .iFlush _ | .iFast | .iHandoff => some .init

/-- The phases in which a command is in progress: its ready-wait, frame and response read; for CMD17 the token wait and
the data phase follow (rule R141). -/
def Phase.runs (p : Phase) (c : Cmd) : Bool :=
  match p with
  | .sReady d _ | .sFrame d _ | .pR1 d _ | .pR3 d _ => decide (d = c)
  | .tToken _ | .bData _ | .bWrite _ _ | .bCrc _ => decide (c = .cmd17)
  | _ => false

end Sys2Proof.Machine
end

