-- ==== Sys2Proof/Machine/Ops.lean ====
section
/-! DEFINITION. The named operations: memory, the bus primitives of rule R11, sending a command, raising an error kind
and completing an operation, and the engine reset. -/

namespace Sys2Proof.Machine

/-! ### Host memory (rules R50 and R109) -/

/-- Write one byte, keeping addresses strictly rising. -/
def Memory.write : Memory → Nat → Byte → Memory
  | [], a, v => [(a, v)]
  | (b, w) :: m, a, v =>
    if a < b then (a, v) :: (b, w) :: m
    else if a = b then (a, v) :: m
    else (b, w) :: Memory.write m a v

/-- Read one byte; an address nothing has written holds none. No step of the engine reads memory (rule R50). -/
def Memory.read? : Memory → Nat → Option Byte
  | [], _ => none
  | (b, w) :: m, a => if a = b then some w else Memory.read? m a

/-- The canonical form: addresses strictly rising. -/
def Memory.wf : Memory → Bool
  | [] => true
  | [_] => true
  | (a, _) :: (b, w) :: m => decide (a < b) && Memory.wf ((b, w) :: m)

/-! ### The R3 register (rule R28) -/

/-- `r3[i]`. -/
def R3.get (r : R3) (i : Fin 5) : Option Byte :=
  match i with
  | 0 => r.b0
  | 1 => r.b1
  | 2 => r.b2
  | 3 => r.b3
  | 4 => r.b4

/-- `r3[i] <- v`. -/
def R3.set (r : R3) (i : Fin 5) (v : Byte) : R3 :=
  match i with
  | 0 => { r with b0 := some v }
  | 1 => { r with b1 := some v }
  | 2 => { r with b2 := some v }
  | 3 => { r with b3 := some v }
  | 4 => { r with b4 := some v }

/-! ### Bus primitives (rule R11) -/

/-- Record an event (rule R112). -/
def State.record (e : Event) (s : State) : State := { s with history := e :: s.history }

/-- The byte the next exchange shifts in: the card's next scripted answer, the free value where the script is used up,
and none where the transport never completes (rules R36, R101 and R111). -/
def State.rx? (s : State) : Option Byte :=
  match s.card with
  | [] => some (Config.cardByte s.oracleIx)
  | .byte rx :: _ => some rx
  | .never :: _ => none

/-- The state after the exchange `XFER(tx) -> rx`: the answer is used up and the exchange is recorded with the
registers at the exchange (rule R102). -/
def State.afterXfer (tx rx : Byte) (s : State) : State :=
  { s with
    card := s.card.tail
    oracleIx := s.oracleIx + 1
    history := .xfer tx rx s.profile s.csMode s.csLevel :: s.history }

/-- `XFER(tx) -> rx` and then the computation `k` (rule R101). A transport that never completes leaves the engine stuck
(rule R111). -/
def xfer (tx : Byte) (s : State) (k : Byte → State → Host.Outcome State Fault Refusal) :
    Host.Outcome State Fault Refusal :=
  match s.rx? with
  | some rx => k rx (s.afterXfer tx rx)
  | none => .fault .transferStuck

/-- The answer `CARD_PRESENT()` gives next (rule R108). -/
def State.present (s : State) : Bool :=
  match s.detect with
  | [] => Config.cardPresent s.oracleIx
  | b :: _ => b

/-- The state after `CARD_PRESENT() -> b` (rule R108). -/
def State.afterDetect (b : Bool) (s : State) : State :=
  { s with detect := s.detect.tail, oracleIx := s.oracleIx + 1, history := .cardPresent b :: s.history }

/-- `CS_DRIVE(level)` (rule R103). -/
def State.csDrive (level : CsLevel) (s : State) : State :=
  { s with csMode := .manual, csLevel := level, history := .csDrive level :: s.history }

/-- `CS_HANDOFF()` (rule R104). -/
def State.csHandoff (s : State) : State :=
  { s with csMode := .hardware, csLevel := .undriven, history := .csHandoff :: s.history }

/-- `SET_PROFILE(Slow)` (rule R105). -/
def State.setSlow (s : State) : State :=
  { s with profile := .slow, history := .setProfile .slow :: s.history }

/-- `SET_PROFILE(Fast)`, with the configuration's `FAST_PROFILE` (rule R105). -/
def State.setFast (s : State) : State :=
  { s with profile := .fast, history := .setProfile (.fast s.cfg.fastProfile) :: s.history }

/-- `MemWrite(BUF + i, 1, v)` (rule R109). -/
def State.memWrite (i : Fin 512) (v : Byte) (s : State) : State :=
  { s with mem := s.mem.write (s.cfg.buf + i.val) v, history := .memWrite i v :: s.history }

/-- `pc <- p`. -/
def State.goto (p : Phase) (s : State) : State := { s with pc := p }

/-! ### Sending a command, failing and completing -/

/-- `SEND(c, a)`: latch the argument and enter the ready-wait (rule R120). -/
def State.send (c : Cmd) (a : Word32) (s : State) : State := { s with cmdArg := a, pc := .sReady c 0 }

/-- `SEND(c, TEMPLATE_ARG(c))`. -/
def State.sendTemplate (c : Cmd) (s : State) : State := s.send c (s.cfg.templateArg c)

/-- `raise Fail(K)` in an operation (rules R182, R216 and R232): the one way an error kind is taken. -/
def State.raiseFail (op : Operation) (k : ErrorKind) (s : State) : State :=
  { s with
    err := some k
    sess := match op with
      | .init => if k = .cardAbsent then .noCard else .failed
      | .readBlock => s.sess
    pc := .done (.fail k) }

/-- The end of an operation's last step: `err <- None` and `pc <- Done(Ok)` (rules R181 and R214). -/
def State.succeed (s : State) : State := { s with err := none, pc := .done .ok }

/-- What the host reads (rules R34 and R40); `ok` is `err = None` (rule R25). -/
def State.view (s : State) : HostView where
  busy := decide (s.pc ≠ .idle)
  sess := s.sess
  err := s.err
  ok := decide (s.err = none)
  r1 := s.r1
  r1Valid := s.r1Valid
  r3 := s.r3
  profile := s.profile
  csMode := s.csMode

/-- `COMPLETE(res)`: the engine presents the result and the registers and returns to `Idle` (rules R110 and R233). Rule
R233 performs the event before `pc <- Idle`; that the registers are presented as they are in `Idle`, with `busy` false, is
DESIGN CHOICE, unsafe (log entry 13). -/
def State.complete (res : Result) (s : State) : State :=
  { s with pc := .idle, history := .complete res res.isOk (s.goto .idle).view :: s.history }

/-- The engine reset (rule R260): every register at its value of rule R39, no event; the card, the transport, the
buffer, the configuration and the history stay. -/
def State.engineReset (s : State) : State :=
  { State.resetWith s.cfg with
    mem := s.mem
    port := s.port
    card := s.card
    detect := s.detect
    oracleIx := s.oracleIx
    history := s.history }

end Sys2Proof.Machine
end

