-- ==== Sys2Proof/Machine/Encoder.lean ====
section
/-! DEFINITION. The command encoder's phases (41_command_encoder.md). -/

namespace Sys2Proof.Machine

/-- `S_Ready(c, n)`, the ready-wait (rule R121). -/
def readyWait (c : Cmd) (n : Nat) (s : State) : Host.Outcome State Fault Refusal :=
  xfer filler s fun rx t =>
    .next (if rx = 0xFF#8 then t.goto (.sFrame c 0)
      else if limitReached t.cfg.readyLimit (n + 1) then t.raiseFail (operationOf c) .responseTimeout
      else t.goto (.sReady c (n + 1)))

/-- `S_Frame(c, j)`: send byte j of the frame with this argument and CRC; the received byte is discarded (rule R122). -/
def sendFrameByte (c : Cmd) (arg : Word32) (crc : BitVec 7) (j : Fin 6) (s : State) :
    Host.Outcome State Fault Refusal :=
  xfer (frameByte c arg crc j) s fun _ t =>
    .next (t.goto (if h : j.val + 1 < 6 then .sFrame c ⟨j.val + 1, h⟩ else .pR1 c 0))

end Sys2Proof.Machine
end

