-- ==== Sys2Proof/Machine/BlockReader.lean ====
section
/-! DEFINITION. The block reader's own phases and checks (44_block_reader.md) and the data-token wait (rule R155). -/

namespace Sys2Proof.Machine

/-- `check_read_r1(v)` (rule R211). -/
def checkReadR1 (v : Byte) (s : State) : State :=
  if v = 0x00#8 then s.goto (.tToken 0) else s.raiseFail .readBlock .readFailed

/-- `T_Token(n)` (rules R155 and R212). -/
def tokenWait (n : Nat) (s : State) : Host.Outcome State Fault Refusal :=
  xfer filler s fun rx t =>
    .next (if rx = dataToken then t.goto (.bData 0)
      else if limitReached t.cfg.tokenLimit (n + 1) then t.raiseFail .readBlock .readFailed
      else t.goto (.tToken (n + 1)))

/-- `B_Data(i)`, its exchange (rule R213). -/
def dataByte (i : Fin 512) (s : State) : Host.Outcome State Fault Refusal :=
  xfer filler s fun rx t => .next (t.goto (.bWrite i rx))

/-- `B_Data(i)`, its buffer write of the byte the exchange received (rule R213). -/
def storeByte (i : Fin 512) (v : Byte) (s : State) : Host.Outcome State Fault Refusal :=
  .next ((s.memWrite i v).goto (if h : i.val + 1 < 512 then .bData ⟨i.val + 1, h⟩ else .bCrc 0))

/-- `B_Crc(j)`: a block CRC byte is received and discarded; the second ends the read (rule R214). -/
def crcByte (j : Fin 2) (s : State) : Host.Outcome State Fault Refusal :=
  xfer filler s fun _ t => .next (if h : j.val + 1 < 2 then t.goto (.bCrc ⟨j.val + 1, h⟩) else t.succeed)

end Sys2Proof.Machine
end

