-- ==== Sys2Proof/Machine/Sequencer.lean ====
section
/-! DEFINITION. The initialization sequencer's own phases and checks (43_init_sequencer.md). -/

namespace Sys2Proof.Machine

/-- `I_Detect`: sample the card-detect line (rule R171). -/
def detectCard (s : State) : Host.Outcome State Fault Refusal :=
  .next (if s.present then (s.afterDetect s.present).goto .iGpio
    else (s.afterDetect s.present).raiseFail .init .cardAbsent)

/-- `I_Gpio`: `GPIO_CONFIGURE()` (rules R106 and R172). -/
def configureGpio (s : State) : Host.Outcome State Fault Refusal := .next ((s.record .gpioConfigure).goto .iSlow)

/-- `I_Slow`: `SET_PROFILE(Slow)` (rule R172). -/
def selectSlow (s : State) : Host.Outcome State Fault Refusal := .next (s.setSlow.goto .iCsHigh)

/-- `I_CsHigh`: `CS_DRIVE(High)` (rule R172). -/
def raiseCs (s : State) : Host.Outcome State Fault Refusal := .next ((s.csDrive .high).goto (.iDummy 0))

/-- `I_Dummy(j)`: one of `N_DUMMY_BYTES` filler exchanges (rule R172). -/
def dummyByte (j : Nat) (s : State) : Host.Outcome State Fault Refusal :=
  xfer filler s fun _ t => .next (t.goto (if j + 1 < t.cfg.nDummyBytes then .iDummy (j + 1) else .iDelay))

/-- `I_Delay`: `DELAY_MS(T_STAB_MS)` (rules R107 and R172). -/
def stabilize (s : State) : Host.Outcome State Fault Refusal :=
  .next ((s.record (.delayMs s.cfg.tStabMs)).goto .iCsLow)

/-- `I_CsLow`: `CS_DRIVE(Low)`, then `sess <- PoweredOn` (rule R172). -/
def lowerCs (s : State) : Host.Outcome State Fault Refusal :=
  .next { (s.csDrive .low).goto (.iFlush 0) with sess := .poweredOn }

/-- `I_Flush(j)`: one of 3 filler exchanges, then CMD0 (rule R173). -/
def flushByte (j : Fin 3) (s : State) : Host.Outcome State Fault Refusal :=
  xfer filler s fun _ t =>
    .next (if h : j.val + 1 < 3 then t.goto (.iFlush ⟨j.val + 1, h⟩) else t.sendTemplate .cmd0)

/-- `check_reset(v)` (rule R174). -/
def checkReset (v : Byte) (s : State) : State :=
  if v = 0x01#8 then { s with sess := .reset }.sendTemplate .cmd8
  else s.raiseFail .init .resetFailed

/-- Entering the ACMD41 loop (rule R176). -/
def enterLoop (s : State) : State := { s with it := 0 }.sendTemplate .cmd55

/-- `check_verify()` (rule R175); the read of an empty `r3[4]` is a fault (rule R240). -/
def checkVerify (s : State) : Host.Outcome State Fault Refusal :=
  match s.r3.get 4 with
  | none => .fault .unwrittenRead
  | some v =>
    .next (if v = checkPattern then enterLoop { s with sess := .verified }
      else s.raiseFail .init .verificationFailed)

/-- `acmd41_round_end(v)` (rule R177). The last round's count stays in `it` when the loop ends, by its exit or by its
bound; rule R31 calls the value outside the loop unspecified, and keeping it is DESIGN CHOICE, unsafe (log entry 21). -/
def acmd41RoundEnd (v : Byte) (s : State) : State :=
  if idleFlag v = false then { s with it := s.it + 1, sess := .initialized }.sendTemplate .cmd58
  else if limitReached s.cfg.acmd41Limit (s.it + 1) then { s with it := s.it + 1 }.raiseFail .init .responseTimeout
  else { s with it := s.it + 1 }.sendTemplate .cmd55

/-- `check_ocr()` (rule R179); the read of an empty `r3[0]` or `r3[1]` is a fault (rule R240). -/
def checkOcr (s : State) : Host.Outcome State Fault Refusal :=
  match s.r3.get 0, s.r3.get 1 with
  | some v0, some v1 =>
    .next (if v0 = 0x00#8 ∧ ccsFlag v1 = true then s.goto .iFast
      else s.raiseFail .init .capacityCheckFailed)
  | _, _ => .fault .unwrittenRead

/-- `I_Fast`: `SET_PROFILE(Fast)` (rule R180). -/
def selectFast (s : State) : Host.Outcome State Fault Refusal := .next (s.setFast.goto .iHandoff)

/-- `I_Handoff`: `CS_HANDOFF()`, then the session is Ready (rules R180 and R181). -/
def handoffCs (s : State) : Host.Outcome State Fault Refusal := .next { s.csHandoff.succeed with sess := .ready }

end Sys2Proof.Machine
end

