-- ==== Sys2Proof/Machine/Reader.lean ====
section
/-! DEFINITION. The response reader's R1 poll and R3 read (42_response_reader.md). The token wait is in BlockReader. -/

namespace Sys2Proof.Machine

/-- The two registers every R1 poll writes as it ends (rules R26, R27 and R151). -/
def State.setR1 (v : Byte) (s : State) : State := { s with r1 := some v, r1Valid := some (validR1 v) }

/-- `end_r1(c, v)`: the registers, then the continuation of the command (rule R151). -/
def endR1 (c : Cmd) (v : Byte) (s : State) : State :=
  match c with
  | .cmd8 | .cmd58 => { (s.setR1 v) with r3 := s.r3.set 0 v, pc := .pR3 c 1 }
  | .cmd0 => checkReset v (s.setR1 v)
  | .cmd55 => (s.setR1 v).sendTemplate .acmd41
  | .acmd41 => acmd41RoundEnd v (s.setR1 v)
  | .cmd17 => checkReadR1 v (s.setR1 v)

/-- `P_R1(c, k)`, poll k+1 of an R1 read (rule R150). -/
def pollR1 (c : Cmd) (k : Fin 8) (s : State) : Host.Outcome State Fault Refusal :=
  xfer filler s fun rx t =>
    .next (if validR1 rx = true then endR1 c rx t
      else if h : k.val + 1 < 8 then t.goto (.pR1 c ⟨k.val + 1, h⟩)
      else endR1 c rx t)

/-- `P_R3(c, i)`, OCR byte i of an R3 read (rule R153). -/
def readOcr (c : Cmd) (i : Fin 5) (s : State) : Host.Outcome State Fault Refusal :=
  xfer filler s fun rx t =>
    if h : i.val + 1 < 5 then .next { t with r3 := t.r3.set i rx, pc := .pR3 c ⟨i.val + 1, h⟩ }
    else if c = .cmd8 then checkVerify { t with r3 := t.r3.set i rx }
    else checkOcr { t with r3 := t.r3.set i rx }

end Sys2Proof.Machine
end

