-- ==== Sys2Proof/Machine/Engine.lean ====
section
/-! DEFINITION. The event of each phase (rule R21), and what the step fetches (rule R22). -/

namespace Sys2Proof.Machine

/-- Perform the event of the phase `s.pc` and the computation after it (rules R21 and R22). `arg` and `crc` are the
operands of the frame being sent; no other phase uses them. `Idle` has no event (rule R250). -/
def phaseEvent (arg : Word32) (crc : BitVec 7) (s : State) : Host.Outcome State Fault Refusal :=
  match s.pc with
  | .idle => .next s
  | .iDetect => detectCard s
  | .iGpio => configureGpio s
  | .iSlow => selectSlow s
  | .iCsHigh => raiseCs s
  | .iDummy j => dummyByte j s
  | .iDelay => stabilize s
  | .iCsLow => lowerCs s
  | .iFlush j => flushByte j s
  | .sReady c n => readyWait c n s
  | .sFrame c j => sendFrameByte c arg crc j s
  | .pR1 c k => pollR1 c k s
  | .pR3 c i => readOcr c i s
  | .tToken n => tokenWait n s
  | .bData i => dataByte i s
  | .bWrite i v => storeByte i v s
  | .bCrc j => crcByte j s
  | .iFast => selectFast s
  | .iHandoff => handoffCs s
  | .done res => .next (s.complete res)

/-- The CRC field of the frame being sent: the template constant of the phase's command (rule R79). -/
def State.frameCrc (s : State) : BitVec 7 :=
  match s.pc.command? with
  | some c => s.cfg.templateCrc c
  | none => 0#7

/-- The engine's own next event: a frame's bytes are those of `frame(c, cmd_arg)` with the template CRC (rules R79,
R122 and R123). -/
def engineEvent (s : State) : Host.Outcome State Fault Refusal := phaseEvent s.cmdArg s.frameCrc s

/-- The word of the instruction the engine is running, read off the phase and `cmd_arg` (rule R22): the command's frame in
a command's phases, the operation's request elsewhere. `Idle` and `Done` run none. -/
def State.fetchWord (s : State) : Option CodeWord :=
  match s.pc.command? with
  | some c => some (encode (Instr.command c s.cmdArg (s.cfg.templateCrc c)))
  | none =>
    match s.pc.operation? with
    | some .init => some (encode (.init 0#32))
    | some .readBlock => some (encode (.readBlock s.cmdArg))
    | none => none

/-- One step of a command: where it is in progress, its next event; elsewhere it starts, with `SEND(c, a)` and the first
event of its ready-wait (rules R120 and R136 to R141; log entry 8). -/
def commandStep (c : Cmd) (arg : Word32) (crc : BitVec 7) (s : State) : Host.Outcome State Fault Refusal :=
  phaseEvent arg crc (if s.pc.runs c then s else s.send c arg)

end Sys2Proof.Machine
end

