-- ==== Sys2Proof/Machine/Commands.lean ====
section
/-! DEFINITION. The meanings of the six command frames (rules R136 to R141): one step is one bus event of the command,
which is the ready-wait (R121), the six frame bytes (R122) and the response read (R150 to R153) with its continuation. -/

namespace Sys2Proof.Machine

/-- CMD0, GO_IDLE_STATE (rule R136): its R1 is checked by rule R174. -/
def execCmd0 (arg : Word32) (crc : BitVec 7) (s : State) : Host.Outcome State Fault Refusal :=
  commandStep .cmd0 arg crc s

/-- CMD8, SEND_IF_COND (rule R137): its R3 is checked by rule R175. -/
def execCmd8 (arg : Word32) (crc : BitVec 7) (s : State) : Host.Outcome State Fault Refusal :=
  commandStep .cmd8 arg crc s

/-- CMD55, APP_CMD (rule R138): its R1 is discarded and ACMD41 follows (rule R177). -/
def execCmd55 (arg : Word32) (crc : BitVec 7) (s : State) : Host.Outcome State Fault Refusal :=
  commandStep .cmd55 arg crc s

/-- ACMD41, SD_SEND_OP_COND (rule R139): bit 0 of its R1 decides the loop (rule R177). -/
def execAcmd41 (arg : Word32) (crc : BitVec 7) (s : State) : Host.Outcome State Fault Refusal :=
  commandStep .acmd41 arg crc s

/-- CMD58, READ_OCR (rule R140): its R3 is checked by rule R179. -/
def execCmd58 (arg : Word32) (crc : BitVec 7) (s : State) : Host.Outcome State Fault Refusal :=
  commandStep .cmd58 arg crc s

/-- CMD17, READ_SINGLE_BLOCK (rule R141): its R1 is checked by rule R211, and the token wait and data phase follow. -/
def execCmd17 (arg : Word32) (crc : BitVec 7) (s : State) : Host.Outcome State Fault Refusal :=
  commandStep .cmd17 arg crc s

end Sys2Proof.Machine
end

