-- ==== Sys2Proof/Machine/Requests.lean ====
section
/-! DEFINITION. The meanings of the two host requests (rules R170 and R210): accepted in `Idle` (rule R100), and then one
step is the operation's next bus event. -/

namespace Sys2Proof.Machine

/-- INIT (rule R170). In `Idle` it is accepted, whatever the session (rules R100 and R185); its address is ignored (rule
R85). While INIT runs, one step is its next event; the commands it sends expand in place (rule R12). While a READ_BLOCK
runs it is the overlapping request of rule R240. In `Done` it performs the `COMPLETE` of whichever operation ends there
(DEDUCED, log entry 16). -/
def execInit (_addr : Word32) (s : State) : Host.Outcome State Fault Refusal :=
  match s.pc.operation?, s.pc with
  | some .init, _ => engineEvent s
  | some .readBlock, _ => .fault .hostOverlap
  | none, .done _ => engineEvent s
  | none, _ => .next (s.goto .iDetect)

/-- READ_BLOCK (rule R210). In `Idle` with a Ready session it enters the block reader by `SEND(CMD17, addr)`; with
another session it is the fault of rule R240. While READ_BLOCK runs, one step is its next event. While an INIT runs it is
the overlapping request of rule R240. In `Done` it performs the `COMPLETE` of whichever operation ends there (DEDUCED, log
entry 16). -/
def execReadBlock (addr : Word32) (s : State) : Host.Outcome State Fault Refusal :=
  match s.pc.operation?, s.pc with
  | some .readBlock, _ => engineEvent s
  | some .init, _ => .fault .hostOverlap
  | none, .done _ => engineEvent s
  | none, _ =>
    if s.sess = .ready then .next (s.send .cmd17 (addressArg s.cfg.addrBits addr)) else .fault .notReady

end Sys2Proof.Machine
end

