-- ==== Sys2Proof/Machine/Dispatch.lean ====
section
/-! DEFINITION. The dispatch: one arm per constructor of `Instr`, each a direct call of that instruction's meaning. -/

namespace Sys2Proof.Machine

def exec (i : Instr) (s : State) : Host.Outcome State Fault Refusal :=
  match i with
  | .cmd0 arg crc => Sys2Proof.Machine.execCmd0 arg crc s
  | .cmd8 arg crc => Sys2Proof.Machine.execCmd8 arg crc s
  | .cmd55 arg crc => Sys2Proof.Machine.execCmd55 arg crc s
  | .acmd41 arg crc => Sys2Proof.Machine.execAcmd41 arg crc s
  | .cmd58 arg crc => Sys2Proof.Machine.execCmd58 arg crc s
  | .cmd17 arg crc => Sys2Proof.Machine.execCmd17 arg crc s
  | .init addr => Sys2Proof.Machine.execInit addr s
  | .readBlock addr => Sys2Proof.Machine.execReadBlock addr s

end Sys2Proof.Machine
end

