-- ==== Sys2Proof/Machine/Port.lean ====
section
/-! DEFINITION. The host's request port (rule R100): which agent moves at a step, and what a presented word does. -/

namespace Sys2Proof.Machine

/-- The engine's move: fetch the word of the running instruction, decode it and execute it. `Done` performs `COMPLETE`
(rule R233) and `Idle` does nothing (rule R250). -/
def running (s : State) : Host.Outcome State Fault Refusal :=
  match s.fetchWord with
  | none => engineEvent s
  | some w =>
    match decode w with
    | .ok i => exec i s
    | .error e => .refused (.undecodable e)

/-- A word on the request port (rule R100). `op = 11` is refused whatever the phase (rule R241; log entry 9); `op = 00` is
no request, so the engine makes its own move; a request while busy is a fault (rule R240); in `Idle` it is executed. -/
def presented (req : BitVec 34) (s : State) : Host.Outcome State Fault Refusal :=
  match decode (.request req) with
  | .ok i => if s.pc = .idle then exec i s else .fault .hostOverlap
  | .error .noRequest => running s
  | .error _ => .refused .reservedRequest

/-- One step: the next entry of the host's port says who moves. The host may assert the engine reset at any time (rule
R260), present a word, or wait for the engine to be idle. -/
def portStep (s : State) : Host.Outcome State Fault Refusal :=
  match s.port with
  | [] => running s
  | .reset :: rest => .next { s with port := rest }.engineReset
  | .present req :: rest => presented req { s with port := rest }
  | .awaitDone :: rest => if s.pc = .idle then .next { s with port := rest } else running s

/-- A frame word placed where the engine runs it: its command's phase is entered, its argument latched, and its CRC put in
the command's template. -/
def State.placeFrame (c : Cmd) (arg : Word32) (crc : BitVec 7) (s : State) : State :=
  { s with
    pc := .sReady c 0
    cmdArg := arg
    port := []
    cfg := { s.cfg with templates := s.cfg.templates.set c ⟨(s.cfg.templates.get c).arg, crc⟩ } }

/-- An instruction placed where the next step runs it. -/
def State.placeInstr (i : Instr) (s : State) : State :=
  match i with
  | .cmd0 arg crc => s.placeFrame .cmd0 arg crc
  | .cmd8 arg crc => s.placeFrame .cmd8 arg crc
  | .cmd55 arg crc => s.placeFrame .cmd55 arg crc
  | .acmd41 arg crc => s.placeFrame .acmd41 arg crc
  | .cmd58 arg crc => s.placeFrame .cmd58 arg crc
  | .cmd17 arg crc => s.placeFrame .cmd17 arg crc
  | .init addr => { s with pc := .idle, port := .present (requestWord 0b01#2 addr) :: s.port }
  | .readBlock addr => { s with pc := .idle, port := .present (requestWord 0b10#2 addr) :: s.port }

end Sys2Proof.Machine
end

