-- ==== Sys2Proof/Machine/Step.lean ====
section
/-! DEFINITION. The step of the machine, and placing an instruction where it runs. -/

namespace Sys2Proof.Machine

/-- One step: one bus event, one host move, or nothing in `Idle` (rules R5, R11 and R100). -/
def step (s : State) : Host.Outcome State Fault Refusal := portStep s

/-- The state with the instruction of an opcode-table word where the next step runs it (log entry 10). A word the decoder
rejects is no form of this hardware and is placed nowhere. -/
def State.withFetchWord (s : State) (nbits w : Nat) : State :=
  match decodeTableWord nbits w with
  | some i => s.placeInstr i
  | none => s

end Sys2Proof.Machine
end

