-- ==== Sys2Proof/Safety.lean ====
section
/-! DEFINITION. What counts as a safe run, in the terms the statements use: the invariant of the machine, and the bus
discipline of the recorded exchanges. -/

namespace Sys2Proof.Machine

/-- The slow profile with chip-select driven high, as for the dummy clocks (rule R188). -/
@[simp] abbrev busSlowHigh (s : State) : Prop := s.profile = .slow ∧ s.csMode = .manual ∧ s.csLevel = .high

/-- The slow profile with chip-select driven low, as for every command of INIT (rules R187 and R188). -/
@[simp] abbrev busSlowLow (s : State) : Prop := s.profile = .slow ∧ s.csMode = .manual ∧ s.csLevel = .low

/-- The fast profile with chip-select handed off, as for every READ_BLOCK (rule R218). -/
@[simp] abbrev busFast (s : State) : Prop := s.profile = .fast ∧ s.csMode = .hardware ∧ s.csLevel = .undriven

/-- A count is below its limit, if it has one. -/
@[simp] abbrev belowLimit (limit : Option Nat) (n : Nat) : Prop := limitReached limit n = false

/-- The session while each command of INIT runs (rules R172 to R177), and while CMD17 runs (rule R216). -/
def stageOf : Cmd → Session
  | .cmd0 => .poweredOn
  | .cmd8 => .reset
  | .cmd55 | .acmd41 => .verified
  | .cmd58 => .initialized
  | .cmd17 => .ready

/-- What holds while a command is in progress: the session of its stage, its bus, its template argument (all but CMD17,
rule R120) and, in the ACMD41 loop, a round count below the limit (rule R177). -/
def commandOk (c : Cmd) (s : State) : Prop :=
  s.sess = stageOf c
    ∧ (if c = .cmd17 then busFast s else busSlowLow s)
    ∧ (c = .cmd17 ∨ s.cmdArg = s.cfg.templateArg c)
    ∧ (c = .cmd55 ∨ c = .acmd41 → belowLimit s.cfg.acmd41Limit s.it)

/-- What holds while the block is awaited or transferred (rules R216 and R218). -/
@[simp] abbrev readOk (s : State) : Prop := s.sess = .ready ∧ busFast s

/-- A Ready session has the bus in the fast profile under hardware chip-select (rules R24 and R218). -/
@[simp] abbrev readyBus (s : State) : Prop := s.sess = .ready → busFast s

/-- The part of the invariant that depends on the phase. -/
def phaseOk (s : State) : Prop :=
  match s.pc with
  | .idle => readyBus s
  | .iDetect | .iGpio | .iSlow => True
  | .iCsHigh => s.profile = .slow
  | .iDummy j => j < s.cfg.nDummyBytes ∧ busSlowHigh s
  | .iDelay | .iCsLow => busSlowHigh s
  | .iFlush _ => s.sess = .poweredOn ∧ busSlowLow s
  | .sReady c n => commandOk c s ∧ belowLimit s.cfg.readyLimit n
  | .sFrame c _ => commandOk c s
  | .pR1 c _ => commandOk c s
  | .pR3 c i =>
    commandOk c s ∧ (c = .cmd8 ∨ c = .cmd58) ∧ 1 ≤ i.val ∧ ∀ j : Fin 5, j.val < i.val → (s.r3.get j).isSome = true
  | .tToken n => readOk s ∧ belowLimit s.cfg.tokenLimit n
  | .bData _ | .bWrite _ _ | .bCrc _ => readOk s
  | .iFast => s.sess = .initialized ∧ busSlowLow s
  | .iHandoff => s.sess = .initialized ∧ s.profile = .fast ∧ s.csMode = .manual ∧ s.csLevel = .low
  | .done .ok => s.err = none ∧ s.sess = .ready ∧ busFast s
  | .done (.fail k) => s.err = some k ∧ readyBus s

/-- The invariant of the machine. -/
structure State.Inv (s : State) : Prop where
  /-- The configuration meets rule R7. -/
  cfgOk : s.cfg.wellFormed = true
  /-- Host memory is in canonical form. -/
  memOk : s.mem.wf = true
  /-- `r1_valid` is written with `r1` and says whether bit 7 is clear (rule R27). -/
  r1Ok : s.r1Valid = s.r1.map validR1
  /-- Nothing has produced InitializationFailed (rule R231). -/
  errOk : s.err ≠ some .initializationFailed
  /-- The phase agrees with the registers. -/
  phase : phaseOk s

/-- The bus discipline of one recorded event (rules R187, R188 and R218): an exchange is slow with manual chip-select,
or fast with hardware chip-select; with chip-select high it is a filler; no exchange is unconfigured. -/
def Event.disciplined : Event → Prop
  | .xfer tx _ p m l =>
    (p = .slow ∧ m = .manual ∧ (l = .low ∨ l = .high ∧ tx = filler)) ∨ (p = .fast ∧ m = .hardware ∧ l = .undriven)
  | _ => True

/-- Every recorded event is disciplined. -/
def State.Disciplined (s : State) : Prop := ∀ e ∈ s.history, e.disciplined

end Sys2Proof.Machine
end

