-- ==== Sys2Proof/Certificates/Slice0/Obligations.lean ====
section
/-! DEFINITION. The statements for the provers. Each docstring names the rule or section of spec/ it formalises. -/

open Sys2Proof Sys2Proof.Machine

/-! ## Encoding (30_encoding.md) -/

/-- Decoding an encoded instruction gives it back, for every instruction and every operand value. -/
def Obligations.DecodeEncodeRoundTrip : Prop :=
  ∀ i : Instr, decode (encode i) = .ok i

/-- Each word has at most one meaning: encoding what a word decodes to gives the word back. -/
def Obligations.EncodeDecodeRoundTrip : Prop :=
  ∀ (w : CodeWord) (i : Instr), decode w = .ok i → encode i = w

/-- The six wire bytes of a command's frame are the six bytes the encoder forms (section 1). -/
def Obligations.WireBytesAreTheFrameBytes : Prop :=
  ∀ (c : Cmd) (arg : Word32) (crc : BitVec 7) (j : Fin 6),
    (wireBytes (frameWord c.index arg crc))[j.val]? = some (frameByte c arg crc j)

/-- R71 and R72: how the first and the last byte of a frame are formed, and which bits they hold. -/
def Obligations.StartAndStopBytes : Prop :=
  (∀ (c : Cmd) (arg : Word32) (crc : BitVec 7),
    frameByte c arg crc 0 = startByte c.index ∧ frameByte c arg crc 5 = stopByte crc)
    ∧ (∀ idx : BitVec 6, startByte idx = 0x40#8 ||| idx.setWidth 8 ∧ (idx.setWidth 8).getLsbD 6 = false
        ∧ (startByte idx).extractLsb' 6 2 = 0b01#2 ∧ (startByte idx).extractLsb' 0 6 = idx)
    ∧ (∀ crc : BitVec 7, stopByte crc = (crc.setWidth 8 <<< 1) ||| 1#8
        ∧ (stopByte crc).extractLsb' 1 7 = crc ∧ (stopByte crc).getLsbD 0 = true)

/-- R52: a command's argument goes on the wire most significant byte first, in every frame. -/
def Obligations.ArgumentBytesBigEndian : Prop :=
  ∀ (c : Cmd) (arg : Word32) (crc : BitVec 7),
    frameByte c arg crc 1 = arg.extractLsb' 24 8 ∧ frameByte c arg crc 2 = arg.extractLsb' 16 8
      ∧ frameByte c arg crc 3 = arg.extractLsb' 8 8 ∧ frameByte c arg crc 4 = arg.extractLsb' 0 8

/-- With the default templates the six frames are those of section 7, CMD17 at every address. -/
def Obligations.DefaultFrames : Prop :=
  (∀ j : Fin 6, frameByte .cmd0 (Config.standard.templateArg .cmd0) (Config.standard.templateCrc .cmd0) j
      = [0x40#8, 0x00#8, 0x00#8, 0x00#8, 0x00#8, 0x95#8][j])
    ∧ (∀ j : Fin 6, frameByte .cmd8 (Config.standard.templateArg .cmd8) (Config.standard.templateCrc .cmd8) j
      = [0x48#8, 0x00#8, 0x00#8, 0x01#8, 0xAA#8, 0x87#8][j])
    ∧ (∀ j : Fin 6, frameByte .cmd55 (Config.standard.templateArg .cmd55) (Config.standard.templateCrc .cmd55) j
      = [0x77#8, 0x00#8, 0x00#8, 0x00#8, 0x00#8, 0x65#8][j])
    ∧ (∀ j : Fin 6, frameByte .acmd41 (Config.standard.templateArg .acmd41) (Config.standard.templateCrc .acmd41) j
      = [0x69#8, 0x40#8, 0x00#8, 0x00#8, 0x00#8, 0x77#8][j])
    ∧ (∀ j : Fin 6, frameByte .cmd58 (Config.standard.templateArg .cmd58) (Config.standard.templateCrc .cmd58) j
      = [0x7A#8, 0x00#8, 0x00#8, 0x00#8, 0x00#8, 0xFD#8][j])
    ∧ (∀ (a : Word32) (j : Fin 6), frameByte .cmd17 a (Config.standard.templateCrc .cmd17) j
      = [0x51#8, a.extractLsb' 24 8, a.extractLsb' 16 8, a.extractLsb' 8 8, a.extractLsb' 0 8, 0x55#8][j])

/-- A 48-bit word is a frame of this engine exactly if its start bits are `01`, its stop bit is `1` and its index is one of
the six (section 6). -/
def Obligations.FrameDecodesExactlyIfOfThisEngine : Prop :=
  ∀ w : BitVec 48, (∃ i, decode (.frame w) = .ok i) ↔
    (w.extractLsb' 46 2 = 0b01#2 ∧ w.getLsbD 0 = true
      ∧ (w.extractLsb' 40 6).toNat ∈ [0, 8, 17, 41, 55, 58])

/-- The four values of a request's `op` (section 5). -/
def Obligations.RequestOpDecodes : Prop :=
  ∀ addr : Word32,
    decode (.request (0b01#2 ++ addr)) = .ok (.init addr)
      ∧ decode (.request (0b10#2 ++ addr)) = .ok (.readBlock addr)
      ∧ decode (.request (0b00#2 ++ addr)) = .error .noRequest
      ∧ decode (.request (0b11#2 ++ addr)) = .error .reservedRequest

/-- Words written out from the encoding tables decode to the instructions they stand for: one of each row. -/
def Obligations.SampleWordsDecode : Prop :=
  decode (.frame 0x400000000095#48) = .ok (.cmd0 0x00000000#32 0x4A#7)
    ∧ decode (.frame 0x48000001AA87#48) = .ok (.cmd8 0x000001AA#32 0x43#7)
    ∧ decode (.frame 0x770000000065#48) = .ok (.cmd55 0x00000000#32 0x32#7)
    ∧ decode (.frame 0x694000000077#48) = .ok (.acmd41 0x40000000#32 0x3B#7)
    ∧ decode (.frame 0x7A00000000FD#48) = .ok (.cmd58 0x00000000#32 0x7E#7)
    ∧ decode (.frame 0x511234567855#48) = .ok (.cmd17 0x12345678#32 0x2A#7)
    ∧ decode (.request 0x100000000#34) = .ok (.init 0#32)
    ∧ decode (.request 0x200000010#34) = .ok (.readBlock 0x10#32)

/-! ## The step (40_bus_interface.md section 1) -/

/-- The step runs the decoded instruction: with nothing at the host's port, where the word the engine is running decodes
to an instruction, the step is that instruction's meaning, with nothing around it. -/
def Obligations.StepRunsFetchedInstruction : Prop :=
  ∀ (s : State) (w : CodeWord) (i : Instr), s.port = [] → s.fetchWord = some w → decode w = .ok i → step s = exec i s

/-- A request presented in `Idle` is executed, its entry taken off the port. -/
def Obligations.StepRunsPresentedRequest : Prop :=
  ∀ (s : State) (req : BitVec 34) (rest : List HostMove) (i : Instr), s.port = .present req :: rest → s.pc = .idle →
    decode (.request req) = .ok i → step s = exec i { s with port := rest }

/-- The word of an opcode-table row, placed, is executed by the very next step: a frame in the state it is placed in, a
request in `Idle`. That a frame is placed by its phase, argument and template CRC is the model's choice (log entry 10). -/
def Obligations.PlacedWordRunsNext : Prop :=
  ∀ (s : State) (nbits w : Nat) (i : Instr), decodeTableWord nbits w = some i →
    step (s.withFetchWord nbits w) = exec i { s.withFetchWord nbits w with port := if 40 < nbits then [] else s.port }

/-- While INIT runs, every step, those of its commands included, is a step of INIT, whatever its ignored address; the same
of READ_BLOCK and its CMD17; and while a command is in progress the step executes the command's own frame, with `cmd_arg`
and its template CRC. -/
def Obligations.OperationExpandsInPlace : Prop :=
  ∀ s : State, s.port = [] →
    (∀ addr, s.pc.operation? = some .init → step s = exec (.init addr) s)
    ∧ (∀ addr, s.pc.operation? = some .readBlock → step s = exec (.readBlock addr) s)
    ∧ (∀ c, s.pc.command? = some c → step s = exec (Instr.command c s.cmdArg (s.cfg.templateCrc c)) s)

/-- A request while the engine is busy is the fault HostOverlap. -/
def Obligations.BusyRequestOverlaps : Prop :=
  ∀ (s : State) (req : BitVec 34) (rest : List HostMove) (i : Instr), s.port = .present req :: rest → s.pc ≠ .idle →
    decode (.request req) = .ok i → step s = .fault .hostOverlap

/-- A request with `op = 11` is refused, whatever the phase (in a busy phase, the model's choice of log entry 9). -/
def Obligations.ReservedRequestRefused : Prop :=
  ∀ (s : State) (addr : Word32) (rest : List HostMove), s.port = .present (0b11#2 ++ addr) :: rest →
    step s = .refused .reservedRequest

/-- `op = 00` is no request: the engine makes the move it would make with nothing at its port. In `Idle` that is nothing:
no event, and no change but the entry taken off the port (log entry 15). -/
def Obligations.NoRequestLetsTheEngineMove : Prop :=
  (∀ (s : State) (addr : Word32) (rest : List HostMove), s.port = .present (0b00#2 ++ addr) :: rest →
    step s = running { s with port := rest } ∧ (s.pc = .idle → step s = .next { s with port := rest }))
  ∧ (∀ s : State, s.port = [] → step s = running s ∧ (s.pc = .idle → step s = .next s))

/-! ## Reset (10_state.md section 7, 70_reset_and_hazards.md section 1) -/

/-- The registers the spec gives a reset value hold it at reset, and the engine is not busy. `cmd_arg` and `it` have none. -/
def Obligations.ResetRegisters : Prop :=
  State.reset.pc = .idle ∧ State.reset.sess = .noCard ∧ State.reset.err = none ∧ State.reset.r1 = none
    ∧ State.reset.r1Valid = none ∧ (∀ i : Fin 5, State.reset.r3.get i = none) ∧ State.reset.profile = .unconfigured
    ∧ State.reset.csMode = .unconfigured ∧ State.reset.csLevel = .undriven ∧ State.reset.view.busy = false

/-- The engine reset, at any time: the registers take their reset values, no event happens, and the buffer, the card and
the configuration stay. -/
def Obligations.EngineResetAtAnyTime : Prop :=
  ∀ (s : State) (rest : List HostMove), s.port = .reset :: rest → ∃ t, step s = .next t
    ∧ t.pc = .idle ∧ t.sess = .noCard ∧ t.err = none ∧ t.r1 = none ∧ t.r1Valid = none ∧ (∀ i : Fin 5, t.r3.get i = none)
    ∧ t.profile = .unconfigured ∧ t.csMode = .unconfigured ∧ t.csLevel = .undriven
    ∧ t.history = s.history ∧ t.mem = s.mem ∧ t.card = s.card ∧ t.detect = s.detect ∧ t.cfg = s.cfg ∧ t.port = rest

/-! ## The command encoder (41_command_encoder.md) -/

/-- The ready-wait of each of the six commands: one filler exchange; `0xFF` begins the frame; the bound, if there is
one, fails the operation, in INIT with the session Failed; else the wait goes on. Outside the ACMD41 loop, that `it`
stays is the model's choice (log entry 21). -/
def Obligations.ReadyWaitExchange : Prop :=
  ∀ (c : Cmd) (arg : Word32) (crc : BitVec 7) (s : State) (n : Nat) (rx : Byte),
    s.pc = .sReady c n → s.rx? = some rx →
    (rx = 0xFF#8 → exec (Instr.command c arg crc) s = .next { s.afterXfer 0xFF#8 rx with pc := .sFrame c 0 })
    ∧ (rx ≠ 0xFF#8 → (∀ l, s.cfg.readyLimit = some l → n + 1 < l) →
        exec (Instr.command c arg crc) s = .next { s.afterXfer 0xFF#8 rx with pc := .sReady c (n + 1) })
    ∧ (∀ l, rx ≠ 0xFF#8 → s.cfg.readyLimit = some l → l ≤ n + 1 →
        exec (Instr.command c arg crc) s = .next { s.afterXfer 0xFF#8 rx with
          err := some .responseTimeout
          sess := if c = .cmd17 then s.sess else .failed
          pc := .done (.fail .responseTimeout) })

/-- Each frame byte of each of the six commands: byte j of the instruction's own word goes out, the received byte is
discarded, and after byte 5 the R1 poll begins. Outside the ACMD41 loop, that `it` stays is the model's choice (log
entry 21). -/
def Obligations.FrameByteExchange : Prop :=
  ∀ (c : Cmd) (arg : Word32) (crc : BitVec 7) (s : State) (rx tx : Byte),
    s.rx? = some rx →
    (∀ (j : Fin 5), s.pc = .sFrame c j.castSucc → (wireBytes (frameWord c.index arg crc))[j.val]? = some tx →
      exec (Instr.command c arg crc) s = .next { s.afterXfer tx rx with pc := .sFrame c j.succ })
    ∧ (s.pc = .sFrame c 5 → (wireBytes (frameWord c.index arg crc))[5]? = some tx →
      exec (Instr.command c arg crc) s = .next { s.afterXfer tx rx with pc := .pR1 c 0 })

/-- A command that is not in progress starts with SEND: the argument is latched and the ready-wait begins. That `exec`
starts it from any other phase is the model's choice (log entry 8); the step never does so. -/
def Obligations.CommandStartsBySend : Prop :=
  ∀ (c : Cmd) (arg : Word32) (crc : BitVec 7) (s : State), s.pc.runs c = false →
    exec (Instr.command c arg crc) s = exec (Instr.command c arg crc) { s with cmdArg := arg, pc := .sReady c 0 }

/-- Six steps send one frame: its six wire bytes with the template CRC, back to back and in order, whatever the card
answers; then the R1 poll begins, with every register but the phase as before. Outside the ACMD41 loop, that `it` stays
is the model's choice (log entry 21). -/
def Obligations.SixStepsSendTheFrame : Prop :=
  ∀ (s : State) (c : Cmd) (r0 r1 r2 r3 r4 r5 b0 b1 b2 b3 b4 b5 : Byte) (rest : List Answer),
    s.pc = .sFrame c 0 → s.port = [] →
    s.card = .byte r0 :: .byte r1 :: .byte r2 :: .byte r3 :: .byte r4 :: .byte r5 :: rest →
    wireBytes (frameWord c.index s.cmdArg (s.cfg.templateCrc c)) = [b0, b1, b2, b3, b4, b5] →
    Host.Core.run core 6 s = .next { s with
      pc := .pR1 c 0
      card := rest
      oracleIx := s.oracleIx + 6
      history := .xfer b5 r5 s.profile s.csMode s.csLevel :: .xfer b4 r4 s.profile s.csMode s.csLevel
        :: .xfer b3 r3 s.profile s.csMode s.csLevel :: .xfer b2 r2 s.profile s.csMode s.csLevel
        :: .xfer b1 r1 s.profile s.csMode s.csLevel :: .xfer b0 r0 s.profile s.csMode s.csLevel :: s.history }

/-! ## The response reader (42_response_reader.md) -/

/-- R150: one poll of the R1 read of each of the six commands. A byte with bit 7 clear, or the 8th poll, ends the poll
with that byte; any other byte is skipped and nothing is stored. Outside the ACMD41 loop, that `it` stays is the model's
choice (log entry 21). -/
def Obligations.R1PollExchange : Prop :=
  ∀ (c : Cmd) (arg : Word32) (crc : BitVec 7) (s : State) (rx : Byte), s.rx? = some rx →
    (∀ k : Fin 8, s.pc = .pR1 c k → (rx.getLsbD 7 = false ∨ k = 7) →
      exec (Instr.command c arg crc) s = .next (endR1 c rx (s.afterXfer 0xFF#8 rx)))
    ∧ (∀ k : Fin 7, s.pc = .pR1 c k.castSucc → rx.getLsbD 7 = true →
      exec (Instr.command c arg crc) s = .next { s.afterXfer 0xFF#8 rx with pc := .pR1 c k.succ })

/-- R152: the R1 poll of CMD8 and of CMD58 ends by writing `r3[0]` and going on with OCR byte 1, valid or not. Outside
the ACMD41 loop, that `it` stays is the model's choice (log entry 21). -/
def Obligations.R3ReadBeginsWithR1 : Prop :=
  ∀ (arg : Word32) (crc : BitVec 7) (s : State) (k : Fin 8) (v : Byte), s.rx? = some v →
    (v.getLsbD 7 = false ∨ k = 7) →
    (s.pc = .pR1 .cmd8 k → exec (.cmd8 arg crc) s = .next { s.afterXfer 0xFF#8 v with
      r1 := some v, r1Valid := some (!v.getLsbD 7), r3 := { s.r3 with b0 := some v }, pc := .pR3 .cmd8 1 })
    ∧ (s.pc = .pR1 .cmd58 k → exec (.cmd58 arg crc) s = .next { s.afterXfer 0xFF#8 v with
      r1 := some v, r1Valid := some (!v.getLsbD 7), r3 := { s.r3 with b0 := some v }, pc := .pR3 .cmd58 1 })

/-- R153: OCR byte i of the R3 read of CMD8 and CMD58 is stored as it comes and `r1` is not written; after byte 4 comes
the command's check. Outside the ACMD41 loop, that `it` stays is the model's choice (log entry 21). -/
def Obligations.OcrByteExchange : Prop :=
  ∀ (c : Cmd) (arg : Word32) (crc : BitVec 7) (s : State) (rx : Byte), s.rx? = some rx → (c = .cmd8 ∨ c = .cmd58) →
    (s.pc = .pR3 c 1 → exec (Instr.command c arg crc) s
      = .next { s.afterXfer 0xFF#8 rx with r3 := { s.r3 with b1 := some rx }, pc := .pR3 c 2 })
    ∧ (s.pc = .pR3 c 2 → exec (Instr.command c arg crc) s
      = .next { s.afterXfer 0xFF#8 rx with r3 := { s.r3 with b2 := some rx }, pc := .pR3 c 3 })
    ∧ (s.pc = .pR3 c 3 → exec (Instr.command c arg crc) s
      = .next { s.afterXfer 0xFF#8 rx with r3 := { s.r3 with b3 := some rx }, pc := .pR3 c 4 })
    ∧ (s.pc = .pR3 c 4 → exec (Instr.command c arg crc) s
      = if c = .cmd8 then checkVerify { s.afterXfer 0xFF#8 rx with r3 := { s.r3 with b4 := some rx } }
        else checkOcr { s.afterXfer 0xFF#8 rx with r3 := { s.r3 with b4 := some rx } })

/-- The token wait, as a step of READ_BLOCK and of its CMD17: `0xFE` begins the data; the bound, if there is one, fails
with ReadFailed and leaves the session; any other byte is skipped. Nothing is stored. Outside the ACMD41 loop, that `it`
stays is the model's choice (log entry 21). -/
def Obligations.TokenWaitExchange : Prop :=
  ∀ (i : Instr) (s : State) (n : Nat) (rx : Byte),
    ((∃ a, i = .readBlock a) ∨ ∃ a crc, i = .cmd17 a crc) → s.pc = .tToken n → s.rx? = some rx →
    (rx = 0xFE#8 → exec i s = .next { s.afterXfer 0xFF#8 rx with pc := .bData 0 })
    ∧ (rx ≠ 0xFE#8 → (∀ l, s.cfg.tokenLimit = some l → n + 1 < l) →
        exec i s = .next { s.afterXfer 0xFF#8 rx with pc := .tToken (n + 1) })
    ∧ (∀ l, rx ≠ 0xFE#8 → s.cfg.tokenLimit = some l → l ≤ n + 1 →
        exec i s = .next { s.afterXfer 0xFF#8 rx with err := some .readFailed, pc := .done (.fail .readFailed) })

/-! ## The initialization sequencer (43_init_sequencer.md) -/

/-- INIT is accepted in `Idle` whatever the session, with no event and no register but the phase written. Outside the
ACMD41 loop, that `it` stays is the model's choice (log entry 21). -/
def Obligations.InitAcceptedInIdle : Prop :=
  ∀ (s : State) (addr : Word32), s.pc = .idle → exec (.init addr) s = .next { s with pc := .iDetect }

/-- The card-detect sample: the only event of a card-absent INIT before its completion. Outside the ACMD41 loop, that
`it` stays is the model's choice (log entry 21). -/
def Obligations.CardDetectSample : Prop :=
  ∀ (s : State) (addr : Word32) (rest : List Bool), s.pc = .iDetect →
    (s.detect = true :: rest → exec (.init addr) s = .next { s with
      detect := rest, oracleIx := s.oracleIx + 1, history := .cardPresent true :: s.history, pc := .iGpio })
    ∧ (s.detect = false :: rest → exec (.init addr) s = .next { s with
      detect := rest, oracleIx := s.oracleIx + 1, history := .cardPresent false :: s.history
      err := some .cardAbsent, sess := .noCard, pc := .done (.fail .cardAbsent) })

/-- The PowerOn step's six kinds of event, in order. Outside the ACMD41 loop, that `it` stays is the model's choice (log
entry 21). -/
def Obligations.PowerOnEvents : Prop :=
  ∀ (s : State) (addr : Word32),
    (s.pc = .iGpio → exec (.init addr) s = .next { s with history := .gpioConfigure :: s.history, pc := .iSlow })
    ∧ (s.pc = .iSlow → exec (.init addr) s = .next { s with
        profile := .slow, history := .setProfile .slow :: s.history, pc := .iCsHigh })
    ∧ (s.pc = .iCsHigh → exec (.init addr) s = .next { s with
        csMode := .manual, csLevel := .high, history := .csDrive .high :: s.history, pc := .iDummy 0 })
    ∧ (∀ j rx, s.pc = .iDummy j → s.rx? = some rx → j + 1 < s.cfg.nDummyBytes →
        exec (.init addr) s = .next { s.afterXfer 0xFF#8 rx with pc := .iDummy (j + 1) })
    ∧ (∀ j rx, s.pc = .iDummy j → s.rx? = some rx → s.cfg.nDummyBytes ≤ j + 1 →
        exec (.init addr) s = .next { s.afterXfer 0xFF#8 rx with pc := .iDelay })
    ∧ (s.pc = .iDelay → exec (.init addr) s = .next { s with
        history := .delayMs s.cfg.tStabMs :: s.history, pc := .iCsLow })
    ∧ (s.pc = .iCsLow → exec (.init addr) s = .next { s with
        csMode := .manual, csLevel := .low, history := .csDrive .low :: s.history
        sess := .poweredOn, pc := .iFlush 0 })

/-- R173: three filler exchanges, their bytes discarded, with chip-select low; then CMD0 is sent. Outside the ACMD41
loop, that `it` stays is the model's choice (log entry 21). -/
def Obligations.FlushThenCmd0 : Prop :=
  ∀ (s : State) (addr : Word32) (rx : Byte), s.rx? = some rx →
    (s.pc = .iFlush 0 → exec (.init addr) s = .next { s.afterXfer 0xFF#8 rx with pc := .iFlush 1 })
    ∧ (s.pc = .iFlush 1 → exec (.init addr) s = .next { s.afterXfer 0xFF#8 rx with pc := .iFlush 2 })
    ∧ (s.pc = .iFlush 2 → exec (.init addr) s = .next { s.afterXfer 0xFF#8 rx with
        cmdArg := s.cfg.templateArg .cmd0, pc := .sReady .cmd0 0 })
    ∧ (∀ j, s.pc = .iFlush j → s.Inv → s.csMode = .manual ∧ s.csLevel = .low)

/-- R174: the check of CMD0's R1 is equality with `0x01`. Outside the ACMD41 loop, that `it` stays is the model's choice
(log entry 21). -/
def Obligations.ResetCheck : Prop :=
  ∀ (arg : Word32) (crc : BitVec 7) (s : State) (k : Fin 8) (v : Byte), s.pc = .pR1 .cmd0 k → s.rx? = some v →
    (v.getLsbD 7 = false ∨ k = 7) →
    exec (.cmd0 arg crc) s = .next (
      if v = 0x01#8 then { s.afterXfer 0xFF#8 v with
        r1 := some v, r1Valid := some (!v.getLsbD 7), sess := .reset
        cmdArg := s.cfg.templateArg .cmd8, pc := .sReady .cmd8 0 }
      else { s.afterXfer 0xFF#8 v with
        r1 := some v, r1Valid := some (!v.getLsbD 7), sess := .failed
        err := some .resetFailed, pc := .done (.fail .resetFailed) })

/-- R175: the check of CMD8's R3 tests only `r3[4]`; it passes into the ACMD41 loop. Outside the ACMD41 loop, that `it`
stays is the model's choice (log entry 21). -/
def Obligations.VerifyCheck : Prop :=
  ∀ (arg : Word32) (crc : BitVec 7) (s : State) (v : Byte), s.pc = .pR3 .cmd8 4 → s.rx? = some v →
    exec (.cmd8 arg crc) s = .next (
      if v = 0xAA#8 then { s.afterXfer 0xFF#8 v with
        r3 := { s.r3 with b4 := some v }, sess := .verified, it := 0
        cmdArg := s.cfg.templateArg .cmd55, pc := .sReady .cmd55 0 }
      else { s.afterXfer 0xFF#8 v with
        r3 := { s.r3 with b4 := some v }, sess := .failed
        err := some .verificationFailed, pc := .done (.fail .verificationFailed) })

/-- CMD55's R1 is stored and not tested: ACMD41 is the next command, whatever it was. -/
def Obligations.AppCmdThenAcmd41 : Prop :=
  ∀ (arg : Word32) (crc : BitVec 7) (s : State) (k : Fin 8) (v : Byte), s.pc = .pR1 .cmd55 k → s.rx? = some v →
    (v.getLsbD 7 = false ∨ k = 7) →
    exec (.cmd55 arg crc) s = .next { s.afterXfer 0xFF#8 v with
      r1 := some v, r1Valid := some (!v.getLsbD 7)
      cmdArg := s.cfg.templateArg .acmd41, pc := .sReady .acmd41 0 }

/-- The end of an ACMD41 round: bit 0 of the R1 alone decides; the exit test comes before the bound. That `it` still
holds the last count once the loop has ended is the model's choice (log entry 21). -/
def Obligations.Acmd41RoundEnd : Prop :=
  ∀ (arg : Word32) (crc : BitVec 7) (s : State) (k : Fin 8) (v : Byte), s.pc = .pR1 .acmd41 k → s.rx? = some v →
    (v.getLsbD 7 = false ∨ k = 7) →
    (v.getLsbD 0 = false → exec (.acmd41 arg crc) s = .next { s.afterXfer 0xFF#8 v with
      r1 := some v, r1Valid := some (!v.getLsbD 7), it := s.it + 1, sess := .initialized
      cmdArg := s.cfg.templateArg .cmd58, pc := .sReady .cmd58 0 })
    ∧ (v.getLsbD 0 = true → (∀ l, s.cfg.acmd41Limit = some l → s.it + 1 < l) →
      exec (.acmd41 arg crc) s = .next { s.afterXfer 0xFF#8 v with
        r1 := some v, r1Valid := some (!v.getLsbD 7), it := s.it + 1
        cmdArg := s.cfg.templateArg .cmd55, pc := .sReady .cmd55 0 })
    ∧ (∀ l, v.getLsbD 0 = true → s.cfg.acmd41Limit = some l → l ≤ s.it + 1 →
      exec (.acmd41 arg crc) s = .next { s.afterXfer 0xFF#8 v with
        r1 := some v, r1Valid := some (!v.getLsbD 7), it := s.it + 1, sess := .failed
        err := some .responseTimeout, pc := .done (.fail .responseTimeout) })

/-- R179: the check of CMD58's R3 tests `r3[0]` and CCS, bit 6 of `r3[1]`, and nothing else. Outside the ACMD41 loop,
that `it` stays is the model's choice (log entry 21). -/
def Obligations.CapacityCheck : Prop :=
  ∀ (arg : Word32) (crc : BitVec 7) (s : State) (v v0 v1 : Byte), s.pc = .pR3 .cmd58 4 → s.rx? = some v →
    s.r3.b0 = some v0 → s.r3.b1 = some v1 →
    exec (.cmd58 arg crc) s = .next (
      if v0 = 0x00#8 ∧ v1.getLsbD 6 = true then { s.afterXfer 0xFF#8 v with
        r3 := { s.r3 with b4 := some v }, pc := .iFast }
      else { s.afterXfer 0xFF#8 v with
        r3 := { s.r3 with b4 := some v }, sess := .failed
        err := some .capacityCheckFailed, pc := .done (.fail .capacityCheckFailed) })

/-- R180: the fast profile is selected first, then chip-select is handed off, and the session is Ready. Outside the
ACMD41 loop, that `it` stays is the model's choice (log entry 21). -/
def Obligations.ReadyEvents : Prop :=
  ∀ (s : State) (addr : Word32),
    (s.pc = .iFast → exec (.init addr) s = .next { s with
      profile := .fast, history := .setProfile (.fast s.cfg.fastProfile) :: s.history, pc := .iHandoff })
    ∧ (s.pc = .iHandoff → exec (.init addr) s = .next { s with
      csMode := .hardware, csLevel := .undriven, history := .csHandoff :: s.history
      sess := .ready, err := none, pc := .done .ok })

/-! ## The block reader (44_block_reader.md) -/

/-- READ_BLOCK is accepted in `Idle` with a Ready session: its address, `ADDR_BITS` wide, becomes CMD17's argument and
the ready-wait begins, with no event. At 32 bits the address is passed unchanged. Outside the ACMD41 loop, that `it`
stays is the model's choice (log entry 21). -/
def Obligations.ReadBlockAcceptedWhenReady : Prop :=
  ∀ (s : State) (addr : Word32), s.pc = .idle → s.sess = .ready →
    (s.cfg.addrBits = 32 → exec (.readBlock addr) s = .next { s with cmdArg := addr, pc := .sReady .cmd17 0 })
    ∧ (addr.toNat < 2 ^ s.cfg.addrBits →
      exec (.readBlock addr) s = .next { s with cmdArg := addr, pc := .sReady .cmd17 0 })

/-- READ_BLOCK in `Idle` with any other session is the fault NotReady. -/
def Obligations.ReadBlockNotReadyFaults : Prop :=
  ∀ (s : State) (addr : Word32), s.pc = .idle → s.sess ≠ .ready → exec (.readBlock addr) s = .fault .notReady

/-- R211: the check of CMD17's R1 is equality with `0x00`; a failure leaves the session. Outside the ACMD41 loop, that
`it` stays is the model's choice (log entry 21). -/
def Obligations.ReadCommandCheck : Prop :=
  ∀ (arg : Word32) (crc : BitVec 7) (s : State) (k : Fin 8) (v : Byte), s.pc = .pR1 .cmd17 k → s.rx? = some v →
    (v.getLsbD 7 = false ∨ k = 7) →
    exec (.cmd17 arg crc) s = .next (
      if v = 0x00#8 then { s.afterXfer 0xFF#8 v with
        r1 := some v, r1Valid := some (!v.getLsbD 7), pc := .tToken 0 }
      else { s.afterXfer 0xFF#8 v with
        r1 := some v, r1Valid := some (!v.getLsbD 7)
        err := some .readFailed, pc := .done (.fail .readFailed) })

/-- R213 and R109: one data byte is two events, the exchange and then the buffer write of the byte received, whatever its
value: cell i holds it, every other address reads as before, and the next is byte i+1, or the block CRC after byte 511. -/
def Obligations.DataByteIsStored : Prop :=
  ∀ (s : State) (i : Fin 512) (rx : Byte), s.port = [] → s.pc = .bData i → s.rx? = some rx →
    ∃ u t, step s = .next u ∧ step u = .next t
      ∧ t.history = .memWrite i rx :: .xfer 0xFF#8 rx s.profile s.csMode s.csLevel :: s.history
      ∧ t.mem.read? (s.cfg.buf + i.val) = some rx
      ∧ (∀ a, a ≠ s.cfg.buf + i.val → t.mem.read? a = s.mem.read? a)
      ∧ (∀ h : i.val < 511, t.pc = .bData ⟨i.val + 1, by omega⟩) ∧ (i.val = 511 → t.pc = .bCrc 0)

/-- The two halves of a data byte as steps of READ_BLOCK and of its CMD17. Outside the ACMD41 loop, that `it` stays is
the model's choice (log entry 21). -/
def Obligations.DataPhaseCompletes : Prop :=
  ∀ (j : Instr) (s : State) (i : Fin 512), ((∃ a, j = .readBlock a) ∨ ∃ a crc, j = .cmd17 a crc) →
    (∀ rx, s.pc = .bData i → s.rx? = some rx → exec j s = .next { s.afterXfer 0xFF#8 rx with pc := .bWrite i rx })
    ∧ (∀ v, s.pc = .bWrite i v → exec j s = .next { s with
        mem := s.mem.write (s.cfg.buf + i.val) v
        history := .memWrite i v :: s.history
        pc := if h : i.val < 511 then .bData ⟨i.val + 1, by omega⟩ else .bCrc 0 })

/-- R214: the two block CRC bytes are received and discarded; the second ends the read with success. Outside the ACMD41
loop, that `it` stays is the model's choice (log entry 21). -/
def Obligations.BlockCrcDiscarded : Prop :=
  ∀ (s : State) (addr : Word32) (rx : Byte), s.rx? = some rx →
    (s.pc = .bCrc 0 → exec (.readBlock addr) s = .next { s.afterXfer 0xFF#8 rx with pc := .bCrc 1 })
    ∧ (s.pc = .bCrc 1 → exec (.readBlock addr) s = .next { s.afterXfer 0xFF#8 rx with err := none, pc := .done .ok })

/-- A whole data phase: 512 answered bytes, of whatever values, are in the buffer in order after 1024 steps, every address
outside the buffer reads as before, and the block CRC is next. -/
def Obligations.DataPhaseFillsTheBuffer : Prop :=
  ∀ (s : State) (bs : List Byte) (rest : List Answer),
    s.port = [] → s.pc = .bData 0 → bs.length = 512 → s.card = bs.map .byte ++ rest →
    ∃ t, Host.Core.run core 1024 s = .next t ∧ t.pc = .bCrc 0 ∧ t.card = rest
      ∧ (∀ i, i < 512 → t.mem.read? (s.cfg.buf + i) = bs[i]?)
      ∧ (∀ a, (a < s.cfg.buf ∨ s.cfg.buf + 512 ≤ a) → t.mem.read? a = s.mem.read? a)

/-- A whole READ_BLOCK that succeeds, from the request to its completion: `busy` bytes before the card is ready, the
frame, `skipped` fillers before R1 `0x00`, `tokens` bytes before the token, 512 data bytes and 2 block CRC bytes, in any
number the bounds allow and of any value. The buffer then holds the block in order, every address outside it reads as
before, the session, `r3`, the loop count and the bus control are as before, and the engine is `Idle`. Outside the
ACMD41 loop, that `it` stays is the model's choice (log entry 21). -/
def Obligations.ReadBlockReadsTheBlock : Prop :=
  ∀ (s : State) (addr : Word32) (busy frame skipped tokens bs crc : List Byte) (rest : List Answer),
    s.pc = .idle → s.sess = .ready → s.port = [.present (0b10#2 ++ addr)] → addr.toNat < 2 ^ s.cfg.addrBits →
    (∀ b ∈ busy, b ≠ 0xFF#8) → (∀ l, s.cfg.readyLimit = some l → busy.length < l) →
    frame.length = 6 → (∀ b ∈ skipped, b.getLsbD 7 = true) → skipped.length < 8 →
    (∀ b ∈ tokens, b ≠ 0xFE#8) → (∀ l, s.cfg.tokenLimit = some l → tokens.length < l) →
    bs.length = 512 → crc.length = 2 →
    s.card = (busy ++ 0xFF#8 :: frame ++ skipped ++ 0x00#8 :: tokens ++ 0xFE#8 :: bs ++ crc).map .byte ++ rest →
    ∃ t v, Host.Core.run core (1 + (busy.length + 1) + 6 + (skipped.length + 1) + (tokens.length + 1) + 1024 + 2 + 1) s
        = .next t
      ∧ t.pc = .idle ∧ t.err = none ∧ t.r1 = some 0x00#8 ∧ t.r1Valid = some true ∧ t.cmdArg = addr
      ∧ (∀ i, i < 512 → t.mem.read? (s.cfg.buf + i) = bs[i]?)
      ∧ (∀ a, (a < s.cfg.buf ∨ s.cfg.buf + 512 ≤ a) → t.mem.read? a = s.mem.read? a)
      ∧ t.sess = s.sess ∧ t.r3 = s.r3 ∧ t.it = s.it ∧ t.profile = s.profile ∧ t.csMode = s.csMode
      ∧ t.csLevel = s.csLevel ∧ t.card = rest ∧ t.port = []
      ∧ t.history.head? = some (.complete .ok true v)

/-! ## Completion and failure (60_exceptions.md) -/

/-- R232: raising an error kind, in either operation: what it writes, and that the operation's only further event is its
`COMPLETE`. -/
def Obligations.RaiseFailThenComplete : Prop :=
  ∀ (op : Operation) (k : ErrorKind) (s : State), s.port = [] →
    (s.raiseFail op k).err = some k ∧ (s.raiseFail op k).pc = .done (.fail k)
      ∧ (s.raiseFail op k).history = s.history
      ∧ (op = .readBlock → (s.raiseFail op k).sess = s.sess)
      ∧ (op = .init → (s.raiseFail op k).sess = if k = .cardAbsent then .noCard else .failed)
      ∧ ∃ t v, step (s.raiseFail op k) = .next t ∧ t.pc = .idle
          ∧ t.history = .complete (.fail k) false v :: s.history

/-- `COMPLETE(res)`, by the step and as the last event of INIT and of READ_BLOCK: the result, `ok` and the registers are
presented, no register but the phase changes, and the engine is `Idle`. That `busy` is false and `ok` is `err = None` in
the event's registers is the model's choice (log entry 13; rule R233 performs the event before `pc <- Idle`), so is that
`it` stays (log entry 21), and that `exec` of INIT and of READ_BLOCK each complete whichever operation ends is the
model's reading (log entry 16). -/
def Obligations.CompleteReturnsToIdle : Prop :=
  ∀ (s : State) (addr : Word32) (res : Result), s.pc = .done res →
    ∃ v : HostView, v.sess = s.sess ∧ v.err = s.err ∧ v.ok = decide (s.err = none) ∧ v.r1 = s.r1
      ∧ v.r1Valid = s.r1Valid ∧ v.r3 = s.r3 ∧ v.profile = s.profile ∧ v.csMode = s.csMode ∧ v.busy = false
      ∧ exec (.init addr) s = .next { s with
          pc := .idle, history := .complete res (decide (res = .ok)) v :: s.history }
      ∧ exec (.readBlock addr) s = exec (.init addr) s
      ∧ (s.port = [] → step s = exec (.init addr) s)

/-- An exchange the transport never completes leaves the engine stuck, in every phase that exchanges. -/
def Obligations.UncompletedExchangeIsStuck : Prop :=
  ∀ s : State, s.port = [] → s.rx? = none →
    ((∃ j, s.pc = .iDummy j) ∨ (∃ j, s.pc = .iFlush j) ∨ (∃ c n, s.pc = .sReady c n) ∨ (∃ c j, s.pc = .sFrame c j)
      ∨ (∃ c k, s.pc = .pR1 c k) ∨ (∃ c i, s.pc = .pR3 c i) ∨ (∃ n, s.pc = .tToken n) ∨ (∃ i, s.pc = .bData i)
      ∨ (∃ j, s.pc = .bCrc j)) →
    step s = .fault .transferStuck

/-! ## Frames -/

/-- What the five commands of INIT leave unchanged, in every phase and from every state. Outside the ACMD41 loop, that
`it` stays is the model's choice (log entry 21). -/
def Obligations.InitCommandFrame : Prop :=
  ∀ (c : Cmd) (arg : Word32) (crc : BitVec 7) (s t : State), c ≠ .cmd17 →
    exec (Instr.command c arg crc) s = .next t →
    t.profile = s.profile ∧ t.csMode = s.csMode ∧ t.csLevel = s.csLevel ∧ t.cfg = s.cfg ∧ t.port = s.port
      ∧ t.detect = s.detect ∧ (∀ a, t.mem.read? a = s.mem.read? a)
      ∧ ((∀ k, s.pc ≠ .pR1 c k) → t.r1 = s.r1 ∧ t.r1Valid = s.r1Valid)
      ∧ (c ≠ .cmd8 → c ≠ .cmd58 → (∀ i, s.pc ≠ .pR3 c i) → t.r3 = s.r3)
      ∧ ((∀ k, s.pc ≠ .pR1 c k) → (∀ i, s.pc ≠ .pR3 c i) → t.r3 = s.r3 ∧ t.it = s.it)
      ∧ (c ≠ .cmd8 → c ≠ .acmd41 → (∀ i, s.pc ≠ .pR3 c i) → t.it = s.it)
      ∧ ((∀ k, t.pc ≠ .done (.fail k)) → t.err = s.err)
      ∧ ((∀ k, s.pc ≠ .pR1 c k) → (∀ i, s.pc ≠ .pR3 c i) → (∀ k, t.pc ≠ .done (.fail k)) → t.sess = s.sess)
      ∧ (c = .cmd55 ∨ c = .cmd58 → (∀ k, t.pc ≠ .done (.fail k)) → t.sess = s.sess)
      ∧ (s.pc.runs c = true → (∀ d, t.pc ≠ .sReady d 0) → t.cmdArg = s.cmdArg)

/-- What CMD17 and READ_BLOCK leave unchanged, in every phase: the session, `r3`, the loop count and the bus control;
and every byte of memory but the one a buffer write stores. The premise rules out the phase `P_R3(CMD17, j)`, which rule
R21 does not have and the invariant excludes. Outside the ACMD41 loop, that `it` stays is the model's choice (log entry
21). -/
def Obligations.ReadBlockFrame : Prop :=
  ∀ (i : Instr) (s t : State),
    ((∃ a, i = .readBlock a) ∨ ∃ a crc, i = .cmd17 a crc) → (∀ j, s.pc ≠ .pR3 .cmd17 j) → exec i s = .next t →
    t.sess = s.sess ∧ t.r3 = s.r3 ∧ t.it = s.it ∧ t.profile = s.profile ∧ t.csMode = s.csMode ∧ t.csLevel = s.csLevel
      ∧ t.cfg = s.cfg ∧ t.port = s.port ∧ t.detect = s.detect
      ∧ ((∀ k, s.pc ≠ .pR1 .cmd17 k) → t.r1 = s.r1 ∧ t.r1Valid = s.r1Valid)
      ∧ (s.pc.runs .cmd17 = true → t.cmdArg = s.cmdArg) ∧ ((∀ r, t.pc ≠ .done r) → t.err = s.err)
      ∧ (∀ a, (∀ j v, s.pc = .bWrite j v → a ≠ s.cfg.buf + j.val) → t.mem.read? a = s.mem.read? a)

/-- What INIT leaves unchanged: all of memory, the configuration and the port always; each register outside the phases
that write it. Outside the ACMD41 loop, that `it` stays is the model's choice (log entry 21). -/
def Obligations.InitFrame : Prop :=
  ∀ (addr : Word32) (s t : State), exec (.init addr) s = .next t →
    (∀ a, t.mem.read? a = s.mem.read? a) ∧ t.cfg = s.cfg ∧ t.port = s.port
      ∧ (s.pc ≠ .iDetect → t.detect = s.detect)
      ∧ (s.pc ≠ .iSlow → s.pc ≠ .iFast → t.profile = s.profile)
      ∧ (s.pc ≠ .iCsHigh → s.pc ≠ .iCsLow → s.pc ≠ .iHandoff → t.csMode = s.csMode ∧ t.csLevel = s.csLevel)
      ∧ ((∀ c k, s.pc ≠ .pR1 c k) → t.r1 = s.r1 ∧ t.r1Valid = s.r1Valid)
      ∧ ((∀ c k, s.pc ≠ .pR1 c k) → (∀ c i, s.pc ≠ .pR3 c i) → t.r3 = s.r3 ∧ t.it = s.it)
      ∧ ((∀ c, t.pc ≠ .sReady c 0) → t.cmdArg = s.cmdArg)
      ∧ ((∀ r, t.pc ≠ .done r) → t.err = s.err)
      ∧ (s.pc ≠ .iCsLow → s.pc ≠ .iHandoff → (∀ c k, s.pc ≠ .pR1 c k) → (∀ c i, s.pc ≠ .pR3 c i) →
          (∀ k, t.pc ≠ .done (.fail k)) → t.sess = s.sess)

/-! ## Whole-machine rules -/

/-- The only bytes of memory a step can change are the 512 of the block buffer, and only in a buffer write of a READ_BLOCK,
one cell a step. -/
def Obligations.OnlyBufferWritesChangeMemory : Prop :=
  ∀ (s t : State) (a : Nat), step s = .next t → t.mem.read? a ≠ s.mem.read? a →
    ∃ i v, s.pc = .bWrite i v ∧ a = s.cfg.buf + i.val ∧ s.cfg.buf ≤ a ∧ a < s.cfg.buf + 512 ∧ t.mem.read? a = some v

/-- One step records at most one event and never forgets one, and it writes no parameter and no template. -/
def Obligations.AtMostOneEventAStep : Prop :=
  ∀ s t : State, step s = .next t → (t.history = s.history ∨ ∃ e, t.history = e :: s.history) ∧ t.cfg = s.cfg

/-- The session becomes Ready only by the chip-select hand-off that ends a successful INIT. -/
def Obligations.ReadyOnlyByHandoff : Prop :=
  ∀ s t : State, step s = .next t → t.sess = .ready → s.sess ≠ .ready → s.pc = .iHandoff

/-- A failing READ_BLOCK has written nothing: once its data phase has begun, no step fails it, and a step that fails a
read leaves every byte of memory as it was. -/
def Obligations.FailedReadLeavesTheBuffer : Prop :=
  ∀ (s t : State) (k : ErrorKind), step s = .next t → t.pc = .done (.fail k) →
    (∀ i, s.pc ≠ .bData i) ∧ (∀ i v, s.pc ≠ .bWrite i v) ∧ (∀ j, s.pc ≠ .bCrc j)
      ∧ ∀ a, t.mem.read? a = s.mem.read? a

/-- No step produces InitializationFailed. -/
def Obligations.InitializationFailedNeverProduced : Prop :=
  ∀ s t : State, step s = .next t → t.err = some .initializationFailed → s.err = some .initializationFailed

/-- In every state of the invariant no check reads an empty response register. -/
def Obligations.NoUnwrittenRead : Prop :=
  ∀ s : State, s.Inv → step s ≠ .fault .unwrittenRead

/-- The machine right after reset meets the invariant. -/
def Obligations.ResetMeetsInvariant : Prop :=
  State.reset.Inv

/-- Every step keeps the invariant, from every state that meets it: memory stays canonical, the phase stays within its
ranges, and the session, bus control, argument, loop count and error registers stay as the phase says. -/
def Obligations.StepKeepsInvariant : Prop :=
  ∀ s t : State, s.Inv → step s = .next t → t.Inv

/-- Every step keeps the bus discipline: each recorded exchange is slow with manual chip-select, with chip-select high
only for fillers, or fast with hardware chip-select. -/
def Obligations.StepKeepsBusDiscipline : Prop :=
  ∀ s t : State, s.Inv → s.Disciplined → step s = .next t → t.Disciplined

/-- From every state of the invariant, an exchange a step records is, in INIT, slow with manual chip-select, high exactly
for the dummy clocks and low otherwise; in READ_BLOCK, fast with hardware chip-select. -/
def Obligations.ExchangesUseTheirProfile : Prop :=
  ∀ (s t : State) (tx rx : Byte) (p : Profile) (m : CsMode) (l : CsLevel), s.Inv → step s = .next t →
    t.history = .xfer tx rx p m l :: s.history →
    (s.pc.operation? = some .init → p = .slow ∧ m = .manual
      ∧ ((∃ j, s.pc = .iDummy j) → l = .high) ∧ ((∀ j, s.pc ≠ .iDummy j) → l = .low))
    ∧ (s.pc.operation? = some .readBlock → p = .fast ∧ m = .hardware)
end

