-- ==== Sys2Proof/Laws/Decode.lean ====
section
/-! SUPPORT. The fields of the two word formats, read back from a word made of them (rules R70 and R85). -/

namespace Sys2Proof

/-- The five fields of a frame word. -/
theorem frameWord_fields (idx : BitVec 6) (arg : Word32) (crc : BitVec 7) :
    (frameWord idx arg crc).extractLsb' 46 2 = 1#2 ∧ (frameWord idx arg crc).extractLsb' 40 6 = idx ∧
    (frameWord idx arg crc).extractLsb' 8 32 = arg ∧ (frameWord idx arg crc).extractLsb' 1 7 = crc ∧
    (frameWord idx arg crc).extractLsb' 0 1 = 1#1 := by
  unfold frameWord
  refine ⟨?_, ?_, ?_, ?_, ?_⟩ <;> ext i hi <;>
    simp only [BitVec.getElem_extractLsb', BitVec.getLsbD_append] <;> grind

/-- The two fields of a request word. -/
theorem requestWord_fields (op : BitVec 2) (addr : Word32) :
    (requestWord op addr).extractLsb' 32 2 = op ∧ (requestWord op addr).extractLsb' 0 32 = addr := by
  unfold requestWord
  constructor <;> ext i hi <;> simp only [BitVec.getElem_extractLsb', BitVec.getLsbD_append] <;> grind

/-- An index carries a command exactly if it is the command's (rule R86). -/
theorem commandOfIndex_eq_some {idx : BitVec 6} {c : Cmd} : commandOfIndex idx = some c ↔ idx = c.index := by
  unfold commandOfIndex
  constructor
  · intro h
    split_ifs at h <;> cases h <;> assumption
  · rintro rfl
    cases c <;> rfl

/-- A request decodes to one of the two requests, or to none. -/
theorem decodeRequest_ok {w : BitVec 34} {i : Instr} (h : decodeRequest w = .ok i) :
    i = .init (w.extractLsb' 0 32) ∨ i = .readBlock (w.extractLsb' 0 32) := by
  unfold decodeRequest at h
  split_ifs at h <;> cases h
  · exact .inl rfl
  · exact .inr rfl

/-- A frame decodes to the command of its index with its argument and CRC, or to none. -/
theorem decodeFrame_ok {w : BitVec 48} {i : Instr} (h : decodeFrame w = .ok i) :
    ∃ c : Cmd, w.extractLsb' 46 2 = 1#2 ∧ w.extractLsb' 0 1 = 1#1 ∧ w.extractLsb' 40 6 = c.index
      ∧ i = Instr.command c (w.extractLsb' 8 32) (w.extractLsb' 1 7) := by
  unfold decodeFrame at h
  split_ifs at h with h1 h2
  split at h
  · rename_i c hc
    cases h
    exact ⟨c, by simpa using h1, by simpa using h2, commandOfIndex_eq_some.mp hc, rfl⟩
  · cases h

end Sys2Proof
end

