-- ==== Sys2Proof/Laws/Memory.lean ====
section
/-! SUPPORT. The laws of host memory: a read after a write, and the canonical form. -/

namespace Sys2Proof.Machine

@[simp] theorem Memory.read?_write_same (m : Memory) (a : Nat) (v : Byte) : (m.write a v).read? a = some v := by
  induction m with
  | nil => simp [Memory.write, Memory.read?]
  | cons e m ih =>
    obtain ⟨b, w⟩ := e
    by_cases hlt : a < b
    · simp [Memory.write, Memory.read?, hlt]
    · by_cases heq : a = b
      · simp [Memory.write, Memory.read?, heq]
      · simp [Memory.write, Memory.read?, hlt, heq, ih]

theorem Memory.read?_write_other (m : Memory) {a x : Nat} (v : Byte) (h : x ≠ a) :
    (m.write a v).read? x = m.read? x := by
  induction m with
  | nil => simp [Memory.write, Memory.read?, h]
  | cons e m ih =>
    obtain ⟨b, w⟩ := e
    by_cases hlt : a < b
    · simp [Memory.write, Memory.read?, hlt, h]
    · by_cases heq : a = b
      · subst heq; simp [Memory.write, Memory.read?, h]
      · simp [Memory.write, Memory.read?, hlt, heq, ih]

/-- The least address of the memory a write leaves is the written one or the old least one. -/
theorem Memory.write_cons_cases (b : Nat) (w : Byte) (m : Memory) (a : Nat) (v : Byte) :
    (∃ m', Memory.write ((b, w) :: m) a v = (a, v) :: m') ∨ (∃ m', Memory.write ((b, w) :: m) a v = (b, w) :: m') := by
  unfold Memory.write
  split_ifs with h1 h2
  · exact .inl ⟨_, rfl⟩
  · exact .inl ⟨_, rfl⟩
  · exact .inr ⟨_, rfl⟩

theorem Memory.wf_cons {b : Nat} {w : Byte} {m : Memory} (h : Memory.wf ((b, w) :: m) = true) : Memory.wf m = true := by
  cases m with
  | nil => rfl
  | cons e m =>
    obtain ⟨c, x⟩ := e
    simp only [Memory.wf, Bool.and_eq_true] at h
    exact h.2

/-- Every write keeps the canonical form. -/
theorem Memory.write_wf (m : Memory) (a : Nat) (v : Byte) (h : m.wf = true) : (m.write a v).wf = true := by
  induction m with
  | nil => rfl
  | cons e m ih =>
    obtain ⟨b, w⟩ := e
    by_cases hlt : a < b
    · simp [Memory.write, Memory.wf, hlt, h]
    · by_cases heq : a = b
      · subst heq
        simp only [Memory.write, lt_irrefl, if_false, if_true]
        cases m with
        | nil => rfl
        | cons e m => obtain ⟨c, x⟩ := e; simpa [Memory.wf] using h
      · have hba : b < a := by omega
        have ih' := ih (Memory.wf_cons h)
        simp only [Memory.write, hlt, heq, if_false]
        cases m with
        | nil => simp [Memory.write, Memory.wf, hba]
        | cons e m =>
          obtain ⟨c, x⟩ := e
          have hbc : b < c := by simp only [Memory.wf, Bool.and_eq_true, decide_eq_true_eq] at h; exact h.1
          obtain ⟨m', hm⟩ | ⟨m', hm⟩ := Memory.write_cons_cases c x m a v
          · rw [hm] at ih' ⊢; simp [Memory.wf, hba, ih']
          · rw [hm] at ih' ⊢; simp [Memory.wf, hbc, ih']

/-- The memory of a reset machine is in canonical form. -/
theorem Memory.reset_wf : State.reset.mem.wf = true := rfl

end Sys2Proof.Machine
end

