-- ==== Sys2Proof/Laws/State.lean ====
section
/-! SUPPORT. One lemma per field per update of the state, each true by rfl and a simp lemma, so that no proof unfolds a
record update. -/

namespace Sys2Proof.Machine

variable (s : State)

/-! ### `record` -/

@[simp] theorem State.record_pc (e : Event) : (s.record e).pc = s.pc := rfl
@[simp] theorem State.record_sess (e : Event) : (s.record e).sess = s.sess := rfl
@[simp] theorem State.record_err (e : Event) : (s.record e).err = s.err := rfl
@[simp] theorem State.record_r1 (e : Event) : (s.record e).r1 = s.r1 := rfl
@[simp] theorem State.record_r1Valid (e : Event) : (s.record e).r1Valid = s.r1Valid := rfl
@[simp] theorem State.record_r3 (e : Event) : (s.record e).r3 = s.r3 := rfl
@[simp] theorem State.record_cmdArg (e : Event) : (s.record e).cmdArg = s.cmdArg := rfl
@[simp] theorem State.record_it (e : Event) : (s.record e).it = s.it := rfl
@[simp] theorem State.record_profile (e : Event) : (s.record e).profile = s.profile := rfl
@[simp] theorem State.record_csMode (e : Event) : (s.record e).csMode = s.csMode := rfl
@[simp] theorem State.record_csLevel (e : Event) : (s.record e).csLevel = s.csLevel := rfl
@[simp] theorem State.record_mem (e : Event) : (s.record e).mem = s.mem := rfl
@[simp] theorem State.record_cfg (e : Event) : (s.record e).cfg = s.cfg := rfl
@[simp] theorem State.record_port (e : Event) : (s.record e).port = s.port := rfl
@[simp] theorem State.record_card (e : Event) : (s.record e).card = s.card := rfl
@[simp] theorem State.record_detect (e : Event) : (s.record e).detect = s.detect := rfl
@[simp] theorem State.record_oracleIx (e : Event) : (s.record e).oracleIx = s.oracleIx := rfl
@[simp] theorem State.record_history (e : Event) : (s.record e).history = e :: s.history := rfl

/-! ### `afterXfer` -/

@[simp] theorem State.afterXfer_pc (tx rx : Byte) : (s.afterXfer tx rx).pc = s.pc := rfl
@[simp] theorem State.afterXfer_sess (tx rx : Byte) : (s.afterXfer tx rx).sess = s.sess := rfl
@[simp] theorem State.afterXfer_err (tx rx : Byte) : (s.afterXfer tx rx).err = s.err := rfl
@[simp] theorem State.afterXfer_r1 (tx rx : Byte) : (s.afterXfer tx rx).r1 = s.r1 := rfl
@[simp] theorem State.afterXfer_r1Valid (tx rx : Byte) : (s.afterXfer tx rx).r1Valid = s.r1Valid := rfl
@[simp] theorem State.afterXfer_r3 (tx rx : Byte) : (s.afterXfer tx rx).r3 = s.r3 := rfl
@[simp] theorem State.afterXfer_cmdArg (tx rx : Byte) : (s.afterXfer tx rx).cmdArg = s.cmdArg := rfl
@[simp] theorem State.afterXfer_it (tx rx : Byte) : (s.afterXfer tx rx).it = s.it := rfl
@[simp] theorem State.afterXfer_profile (tx rx : Byte) : (s.afterXfer tx rx).profile = s.profile := rfl
@[simp] theorem State.afterXfer_csMode (tx rx : Byte) : (s.afterXfer tx rx).csMode = s.csMode := rfl
@[simp] theorem State.afterXfer_csLevel (tx rx : Byte) : (s.afterXfer tx rx).csLevel = s.csLevel := rfl
@[simp] theorem State.afterXfer_mem (tx rx : Byte) : (s.afterXfer tx rx).mem = s.mem := rfl
@[simp] theorem State.afterXfer_cfg (tx rx : Byte) : (s.afterXfer tx rx).cfg = s.cfg := rfl
@[simp] theorem State.afterXfer_port (tx rx : Byte) : (s.afterXfer tx rx).port = s.port := rfl
@[simp] theorem State.afterXfer_card (tx rx : Byte) : (s.afterXfer tx rx).card = s.card.tail := rfl
@[simp] theorem State.afterXfer_detect (tx rx : Byte) : (s.afterXfer tx rx).detect = s.detect := rfl
@[simp] theorem State.afterXfer_oracleIx (tx rx : Byte) : (s.afterXfer tx rx).oracleIx = s.oracleIx + 1 := rfl
@[simp] theorem State.afterXfer_history (tx rx : Byte) : (s.afterXfer tx rx).history = .xfer tx rx s.profile s.csMode s.csLevel :: s.history := rfl

/-! ### `afterDetect` -/

@[simp] theorem State.afterDetect_pc (b : Bool) : (s.afterDetect b).pc = s.pc := rfl
@[simp] theorem State.afterDetect_sess (b : Bool) : (s.afterDetect b).sess = s.sess := rfl
@[simp] theorem State.afterDetect_err (b : Bool) : (s.afterDetect b).err = s.err := rfl
@[simp] theorem State.afterDetect_r1 (b : Bool) : (s.afterDetect b).r1 = s.r1 := rfl
@[simp] theorem State.afterDetect_r1Valid (b : Bool) : (s.afterDetect b).r1Valid = s.r1Valid := rfl
@[simp] theorem State.afterDetect_r3 (b : Bool) : (s.afterDetect b).r3 = s.r3 := rfl
@[simp] theorem State.afterDetect_cmdArg (b : Bool) : (s.afterDetect b).cmdArg = s.cmdArg := rfl
@[simp] theorem State.afterDetect_it (b : Bool) : (s.afterDetect b).it = s.it := rfl
@[simp] theorem State.afterDetect_profile (b : Bool) : (s.afterDetect b).profile = s.profile := rfl
@[simp] theorem State.afterDetect_csMode (b : Bool) : (s.afterDetect b).csMode = s.csMode := rfl
@[simp] theorem State.afterDetect_csLevel (b : Bool) : (s.afterDetect b).csLevel = s.csLevel := rfl
@[simp] theorem State.afterDetect_mem (b : Bool) : (s.afterDetect b).mem = s.mem := rfl
@[simp] theorem State.afterDetect_cfg (b : Bool) : (s.afterDetect b).cfg = s.cfg := rfl
@[simp] theorem State.afterDetect_port (b : Bool) : (s.afterDetect b).port = s.port := rfl
@[simp] theorem State.afterDetect_card (b : Bool) : (s.afterDetect b).card = s.card := rfl
@[simp] theorem State.afterDetect_detect (b : Bool) : (s.afterDetect b).detect = s.detect.tail := rfl
@[simp] theorem State.afterDetect_oracleIx (b : Bool) : (s.afterDetect b).oracleIx = s.oracleIx + 1 := rfl
@[simp] theorem State.afterDetect_history (b : Bool) : (s.afterDetect b).history = .cardPresent b :: s.history := rfl

/-! ### `csDrive` -/

@[simp] theorem State.csDrive_pc (l : CsLevel) : (s.csDrive l).pc = s.pc := rfl
@[simp] theorem State.csDrive_sess (l : CsLevel) : (s.csDrive l).sess = s.sess := rfl
@[simp] theorem State.csDrive_err (l : CsLevel) : (s.csDrive l).err = s.err := rfl
@[simp] theorem State.csDrive_r1 (l : CsLevel) : (s.csDrive l).r1 = s.r1 := rfl
@[simp] theorem State.csDrive_r1Valid (l : CsLevel) : (s.csDrive l).r1Valid = s.r1Valid := rfl
@[simp] theorem State.csDrive_r3 (l : CsLevel) : (s.csDrive l).r3 = s.r3 := rfl
@[simp] theorem State.csDrive_cmdArg (l : CsLevel) : (s.csDrive l).cmdArg = s.cmdArg := rfl
@[simp] theorem State.csDrive_it (l : CsLevel) : (s.csDrive l).it = s.it := rfl
@[simp] theorem State.csDrive_profile (l : CsLevel) : (s.csDrive l).profile = s.profile := rfl
@[simp] theorem State.csDrive_csMode (l : CsLevel) : (s.csDrive l).csMode = .manual := rfl
@[simp] theorem State.csDrive_csLevel (l : CsLevel) : (s.csDrive l).csLevel = l := rfl
@[simp] theorem State.csDrive_mem (l : CsLevel) : (s.csDrive l).mem = s.mem := rfl
@[simp] theorem State.csDrive_cfg (l : CsLevel) : (s.csDrive l).cfg = s.cfg := rfl
@[simp] theorem State.csDrive_port (l : CsLevel) : (s.csDrive l).port = s.port := rfl
@[simp] theorem State.csDrive_card (l : CsLevel) : (s.csDrive l).card = s.card := rfl
@[simp] theorem State.csDrive_detect (l : CsLevel) : (s.csDrive l).detect = s.detect := rfl
@[simp] theorem State.csDrive_oracleIx (l : CsLevel) : (s.csDrive l).oracleIx = s.oracleIx := rfl
@[simp] theorem State.csDrive_history (l : CsLevel) : (s.csDrive l).history = .csDrive l :: s.history := rfl

/-! ### `csHandoff` -/

@[simp] theorem State.csHandoff_pc : (s.csHandoff).pc = s.pc := rfl
@[simp] theorem State.csHandoff_sess : (s.csHandoff).sess = s.sess := rfl
@[simp] theorem State.csHandoff_err : (s.csHandoff).err = s.err := rfl
@[simp] theorem State.csHandoff_r1 : (s.csHandoff).r1 = s.r1 := rfl
@[simp] theorem State.csHandoff_r1Valid : (s.csHandoff).r1Valid = s.r1Valid := rfl
@[simp] theorem State.csHandoff_r3 : (s.csHandoff).r3 = s.r3 := rfl
@[simp] theorem State.csHandoff_cmdArg : (s.csHandoff).cmdArg = s.cmdArg := rfl
@[simp] theorem State.csHandoff_it : (s.csHandoff).it = s.it := rfl
@[simp] theorem State.csHandoff_profile : (s.csHandoff).profile = s.profile := rfl
@[simp] theorem State.csHandoff_csMode : (s.csHandoff).csMode = .hardware := rfl
@[simp] theorem State.csHandoff_csLevel : (s.csHandoff).csLevel = .undriven := rfl
@[simp] theorem State.csHandoff_mem : (s.csHandoff).mem = s.mem := rfl
@[simp] theorem State.csHandoff_cfg : (s.csHandoff).cfg = s.cfg := rfl
@[simp] theorem State.csHandoff_port : (s.csHandoff).port = s.port := rfl
@[simp] theorem State.csHandoff_card : (s.csHandoff).card = s.card := rfl
@[simp] theorem State.csHandoff_detect : (s.csHandoff).detect = s.detect := rfl
@[simp] theorem State.csHandoff_oracleIx : (s.csHandoff).oracleIx = s.oracleIx := rfl
@[simp] theorem State.csHandoff_history : (s.csHandoff).history = .csHandoff :: s.history := rfl

/-! ### `setSlow` -/

@[simp] theorem State.setSlow_pc : (s.setSlow).pc = s.pc := rfl
@[simp] theorem State.setSlow_sess : (s.setSlow).sess = s.sess := rfl
@[simp] theorem State.setSlow_err : (s.setSlow).err = s.err := rfl
@[simp] theorem State.setSlow_r1 : (s.setSlow).r1 = s.r1 := rfl
@[simp] theorem State.setSlow_r1Valid : (s.setSlow).r1Valid = s.r1Valid := rfl
@[simp] theorem State.setSlow_r3 : (s.setSlow).r3 = s.r3 := rfl
@[simp] theorem State.setSlow_cmdArg : (s.setSlow).cmdArg = s.cmdArg := rfl
@[simp] theorem State.setSlow_it : (s.setSlow).it = s.it := rfl
@[simp] theorem State.setSlow_profile : (s.setSlow).profile = .slow := rfl
@[simp] theorem State.setSlow_csMode : (s.setSlow).csMode = s.csMode := rfl
@[simp] theorem State.setSlow_csLevel : (s.setSlow).csLevel = s.csLevel := rfl
@[simp] theorem State.setSlow_mem : (s.setSlow).mem = s.mem := rfl
@[simp] theorem State.setSlow_cfg : (s.setSlow).cfg = s.cfg := rfl
@[simp] theorem State.setSlow_port : (s.setSlow).port = s.port := rfl
@[simp] theorem State.setSlow_card : (s.setSlow).card = s.card := rfl
@[simp] theorem State.setSlow_detect : (s.setSlow).detect = s.detect := rfl
@[simp] theorem State.setSlow_oracleIx : (s.setSlow).oracleIx = s.oracleIx := rfl
@[simp] theorem State.setSlow_history : (s.setSlow).history = .setProfile .slow :: s.history := rfl

/-! ### `setFast` -/

@[simp] theorem State.setFast_pc : (s.setFast).pc = s.pc := rfl
@[simp] theorem State.setFast_sess : (s.setFast).sess = s.sess := rfl
@[simp] theorem State.setFast_err : (s.setFast).err = s.err := rfl
@[simp] theorem State.setFast_r1 : (s.setFast).r1 = s.r1 := rfl
@[simp] theorem State.setFast_r1Valid : (s.setFast).r1Valid = s.r1Valid := rfl
@[simp] theorem State.setFast_r3 : (s.setFast).r3 = s.r3 := rfl
@[simp] theorem State.setFast_cmdArg : (s.setFast).cmdArg = s.cmdArg := rfl
@[simp] theorem State.setFast_it : (s.setFast).it = s.it := rfl
@[simp] theorem State.setFast_profile : (s.setFast).profile = .fast := rfl
@[simp] theorem State.setFast_csMode : (s.setFast).csMode = s.csMode := rfl
@[simp] theorem State.setFast_csLevel : (s.setFast).csLevel = s.csLevel := rfl
@[simp] theorem State.setFast_mem : (s.setFast).mem = s.mem := rfl
@[simp] theorem State.setFast_cfg : (s.setFast).cfg = s.cfg := rfl
@[simp] theorem State.setFast_port : (s.setFast).port = s.port := rfl
@[simp] theorem State.setFast_card : (s.setFast).card = s.card := rfl
@[simp] theorem State.setFast_detect : (s.setFast).detect = s.detect := rfl
@[simp] theorem State.setFast_oracleIx : (s.setFast).oracleIx = s.oracleIx := rfl
@[simp] theorem State.setFast_history : (s.setFast).history = .setProfile (.fast s.cfg.fastProfile) :: s.history := rfl

/-! ### `memWrite` -/

@[simp] theorem State.memWrite_pc (i : Fin 512) (v : Byte) : (s.memWrite i v).pc = s.pc := rfl
@[simp] theorem State.memWrite_sess (i : Fin 512) (v : Byte) : (s.memWrite i v).sess = s.sess := rfl
@[simp] theorem State.memWrite_err (i : Fin 512) (v : Byte) : (s.memWrite i v).err = s.err := rfl
@[simp] theorem State.memWrite_r1 (i : Fin 512) (v : Byte) : (s.memWrite i v).r1 = s.r1 := rfl
@[simp] theorem State.memWrite_r1Valid (i : Fin 512) (v : Byte) : (s.memWrite i v).r1Valid = s.r1Valid := rfl
@[simp] theorem State.memWrite_r3 (i : Fin 512) (v : Byte) : (s.memWrite i v).r3 = s.r3 := rfl
@[simp] theorem State.memWrite_cmdArg (i : Fin 512) (v : Byte) : (s.memWrite i v).cmdArg = s.cmdArg := rfl
@[simp] theorem State.memWrite_it (i : Fin 512) (v : Byte) : (s.memWrite i v).it = s.it := rfl
@[simp] theorem State.memWrite_profile (i : Fin 512) (v : Byte) : (s.memWrite i v).profile = s.profile := rfl
@[simp] theorem State.memWrite_csMode (i : Fin 512) (v : Byte) : (s.memWrite i v).csMode = s.csMode := rfl
@[simp] theorem State.memWrite_csLevel (i : Fin 512) (v : Byte) : (s.memWrite i v).csLevel = s.csLevel := rfl
@[simp] theorem State.memWrite_mem (i : Fin 512) (v : Byte) : (s.memWrite i v).mem = s.mem.write (s.cfg.buf + i.val) v := rfl
@[simp] theorem State.memWrite_cfg (i : Fin 512) (v : Byte) : (s.memWrite i v).cfg = s.cfg := rfl
@[simp] theorem State.memWrite_port (i : Fin 512) (v : Byte) : (s.memWrite i v).port = s.port := rfl
@[simp] theorem State.memWrite_card (i : Fin 512) (v : Byte) : (s.memWrite i v).card = s.card := rfl
@[simp] theorem State.memWrite_detect (i : Fin 512) (v : Byte) : (s.memWrite i v).detect = s.detect := rfl
@[simp] theorem State.memWrite_oracleIx (i : Fin 512) (v : Byte) : (s.memWrite i v).oracleIx = s.oracleIx := rfl
@[simp] theorem State.memWrite_history (i : Fin 512) (v : Byte) : (s.memWrite i v).history = .memWrite i v :: s.history := rfl

/-! ### `goto` -/

@[simp] theorem State.goto_pc (p : Phase) : (s.goto p).pc = p := rfl
@[simp] theorem State.goto_sess (p : Phase) : (s.goto p).sess = s.sess := rfl
@[simp] theorem State.goto_err (p : Phase) : (s.goto p).err = s.err := rfl
@[simp] theorem State.goto_r1 (p : Phase) : (s.goto p).r1 = s.r1 := rfl
@[simp] theorem State.goto_r1Valid (p : Phase) : (s.goto p).r1Valid = s.r1Valid := rfl
@[simp] theorem State.goto_r3 (p : Phase) : (s.goto p).r3 = s.r3 := rfl
@[simp] theorem State.goto_cmdArg (p : Phase) : (s.goto p).cmdArg = s.cmdArg := rfl
@[simp] theorem State.goto_it (p : Phase) : (s.goto p).it = s.it := rfl
@[simp] theorem State.goto_profile (p : Phase) : (s.goto p).profile = s.profile := rfl
@[simp] theorem State.goto_csMode (p : Phase) : (s.goto p).csMode = s.csMode := rfl
@[simp] theorem State.goto_csLevel (p : Phase) : (s.goto p).csLevel = s.csLevel := rfl
@[simp] theorem State.goto_mem (p : Phase) : (s.goto p).mem = s.mem := rfl
@[simp] theorem State.goto_cfg (p : Phase) : (s.goto p).cfg = s.cfg := rfl
@[simp] theorem State.goto_port (p : Phase) : (s.goto p).port = s.port := rfl
@[simp] theorem State.goto_card (p : Phase) : (s.goto p).card = s.card := rfl
@[simp] theorem State.goto_detect (p : Phase) : (s.goto p).detect = s.detect := rfl
@[simp] theorem State.goto_oracleIx (p : Phase) : (s.goto p).oracleIx = s.oracleIx := rfl
@[simp] theorem State.goto_history (p : Phase) : (s.goto p).history = s.history := rfl

/-! ### `send` -/

@[simp] theorem State.send_pc (c : Cmd) (a : Word32) : (s.send c a).pc = .sReady c 0 := rfl
@[simp] theorem State.send_sess (c : Cmd) (a : Word32) : (s.send c a).sess = s.sess := rfl
@[simp] theorem State.send_err (c : Cmd) (a : Word32) : (s.send c a).err = s.err := rfl
@[simp] theorem State.send_r1 (c : Cmd) (a : Word32) : (s.send c a).r1 = s.r1 := rfl
@[simp] theorem State.send_r1Valid (c : Cmd) (a : Word32) : (s.send c a).r1Valid = s.r1Valid := rfl
@[simp] theorem State.send_r3 (c : Cmd) (a : Word32) : (s.send c a).r3 = s.r3 := rfl
@[simp] theorem State.send_cmdArg (c : Cmd) (a : Word32) : (s.send c a).cmdArg = a := rfl
@[simp] theorem State.send_it (c : Cmd) (a : Word32) : (s.send c a).it = s.it := rfl
@[simp] theorem State.send_profile (c : Cmd) (a : Word32) : (s.send c a).profile = s.profile := rfl
@[simp] theorem State.send_csMode (c : Cmd) (a : Word32) : (s.send c a).csMode = s.csMode := rfl
@[simp] theorem State.send_csLevel (c : Cmd) (a : Word32) : (s.send c a).csLevel = s.csLevel := rfl
@[simp] theorem State.send_mem (c : Cmd) (a : Word32) : (s.send c a).mem = s.mem := rfl
@[simp] theorem State.send_cfg (c : Cmd) (a : Word32) : (s.send c a).cfg = s.cfg := rfl
@[simp] theorem State.send_port (c : Cmd) (a : Word32) : (s.send c a).port = s.port := rfl
@[simp] theorem State.send_card (c : Cmd) (a : Word32) : (s.send c a).card = s.card := rfl
@[simp] theorem State.send_detect (c : Cmd) (a : Word32) : (s.send c a).detect = s.detect := rfl
@[simp] theorem State.send_oracleIx (c : Cmd) (a : Word32) : (s.send c a).oracleIx = s.oracleIx := rfl
@[simp] theorem State.send_history (c : Cmd) (a : Word32) : (s.send c a).history = s.history := rfl

/-! ### `sendTemplate` -/

@[simp] theorem State.sendTemplate_pc (c : Cmd) : (s.sendTemplate c).pc = .sReady c 0 := rfl
@[simp] theorem State.sendTemplate_sess (c : Cmd) : (s.sendTemplate c).sess = s.sess := rfl
@[simp] theorem State.sendTemplate_err (c : Cmd) : (s.sendTemplate c).err = s.err := rfl
@[simp] theorem State.sendTemplate_r1 (c : Cmd) : (s.sendTemplate c).r1 = s.r1 := rfl
@[simp] theorem State.sendTemplate_r1Valid (c : Cmd) : (s.sendTemplate c).r1Valid = s.r1Valid := rfl
@[simp] theorem State.sendTemplate_r3 (c : Cmd) : (s.sendTemplate c).r3 = s.r3 := rfl
@[simp] theorem State.sendTemplate_cmdArg (c : Cmd) : (s.sendTemplate c).cmdArg = s.cfg.templateArg c := rfl
@[simp] theorem State.sendTemplate_it (c : Cmd) : (s.sendTemplate c).it = s.it := rfl
@[simp] theorem State.sendTemplate_profile (c : Cmd) : (s.sendTemplate c).profile = s.profile := rfl
@[simp] theorem State.sendTemplate_csMode (c : Cmd) : (s.sendTemplate c).csMode = s.csMode := rfl
@[simp] theorem State.sendTemplate_csLevel (c : Cmd) : (s.sendTemplate c).csLevel = s.csLevel := rfl
@[simp] theorem State.sendTemplate_mem (c : Cmd) : (s.sendTemplate c).mem = s.mem := rfl
@[simp] theorem State.sendTemplate_cfg (c : Cmd) : (s.sendTemplate c).cfg = s.cfg := rfl
@[simp] theorem State.sendTemplate_port (c : Cmd) : (s.sendTemplate c).port = s.port := rfl
@[simp] theorem State.sendTemplate_card (c : Cmd) : (s.sendTemplate c).card = s.card := rfl
@[simp] theorem State.sendTemplate_detect (c : Cmd) : (s.sendTemplate c).detect = s.detect := rfl
@[simp] theorem State.sendTemplate_oracleIx (c : Cmd) : (s.sendTemplate c).oracleIx = s.oracleIx := rfl
@[simp] theorem State.sendTemplate_history (c : Cmd) : (s.sendTemplate c).history = s.history := rfl

/-! ### `succeed` -/

@[simp] theorem State.succeed_pc : (s.succeed).pc = .done .ok := rfl
@[simp] theorem State.succeed_sess : (s.succeed).sess = s.sess := rfl
@[simp] theorem State.succeed_err : (s.succeed).err = none := rfl
@[simp] theorem State.succeed_r1 : (s.succeed).r1 = s.r1 := rfl
@[simp] theorem State.succeed_r1Valid : (s.succeed).r1Valid = s.r1Valid := rfl
@[simp] theorem State.succeed_r3 : (s.succeed).r3 = s.r3 := rfl
@[simp] theorem State.succeed_cmdArg : (s.succeed).cmdArg = s.cmdArg := rfl
@[simp] theorem State.succeed_it : (s.succeed).it = s.it := rfl
@[simp] theorem State.succeed_profile : (s.succeed).profile = s.profile := rfl
@[simp] theorem State.succeed_csMode : (s.succeed).csMode = s.csMode := rfl
@[simp] theorem State.succeed_csLevel : (s.succeed).csLevel = s.csLevel := rfl
@[simp] theorem State.succeed_mem : (s.succeed).mem = s.mem := rfl
@[simp] theorem State.succeed_cfg : (s.succeed).cfg = s.cfg := rfl
@[simp] theorem State.succeed_port : (s.succeed).port = s.port := rfl
@[simp] theorem State.succeed_card : (s.succeed).card = s.card := rfl
@[simp] theorem State.succeed_detect : (s.succeed).detect = s.detect := rfl
@[simp] theorem State.succeed_oracleIx : (s.succeed).oracleIx = s.oracleIx := rfl
@[simp] theorem State.succeed_history : (s.succeed).history = s.history := rfl

/-! ### `setR1` -/

@[simp] theorem State.setR1_pc (v : Byte) : (s.setR1 v).pc = s.pc := rfl
@[simp] theorem State.setR1_sess (v : Byte) : (s.setR1 v).sess = s.sess := rfl
@[simp] theorem State.setR1_err (v : Byte) : (s.setR1 v).err = s.err := rfl
@[simp] theorem State.setR1_r1 (v : Byte) : (s.setR1 v).r1 = some v := rfl
@[simp] theorem State.setR1_r1Valid (v : Byte) : (s.setR1 v).r1Valid = some (validR1 v) := rfl
@[simp] theorem State.setR1_r3 (v : Byte) : (s.setR1 v).r3 = s.r3 := rfl
@[simp] theorem State.setR1_cmdArg (v : Byte) : (s.setR1 v).cmdArg = s.cmdArg := rfl
@[simp] theorem State.setR1_it (v : Byte) : (s.setR1 v).it = s.it := rfl
@[simp] theorem State.setR1_profile (v : Byte) : (s.setR1 v).profile = s.profile := rfl
@[simp] theorem State.setR1_csMode (v : Byte) : (s.setR1 v).csMode = s.csMode := rfl
@[simp] theorem State.setR1_csLevel (v : Byte) : (s.setR1 v).csLevel = s.csLevel := rfl
@[simp] theorem State.setR1_mem (v : Byte) : (s.setR1 v).mem = s.mem := rfl
@[simp] theorem State.setR1_cfg (v : Byte) : (s.setR1 v).cfg = s.cfg := rfl
@[simp] theorem State.setR1_port (v : Byte) : (s.setR1 v).port = s.port := rfl
@[simp] theorem State.setR1_card (v : Byte) : (s.setR1 v).card = s.card := rfl
@[simp] theorem State.setR1_detect (v : Byte) : (s.setR1 v).detect = s.detect := rfl
@[simp] theorem State.setR1_oracleIx (v : Byte) : (s.setR1 v).oracleIx = s.oracleIx := rfl
@[simp] theorem State.setR1_history (v : Byte) : (s.setR1 v).history = s.history := rfl

/-! ### `complete` -/

@[simp] theorem State.complete_pc (res : Result) : (s.complete res).pc = .idle := rfl
@[simp] theorem State.complete_sess (res : Result) : (s.complete res).sess = s.sess := rfl
@[simp] theorem State.complete_err (res : Result) : (s.complete res).err = s.err := rfl
@[simp] theorem State.complete_r1 (res : Result) : (s.complete res).r1 = s.r1 := rfl
@[simp] theorem State.complete_r1Valid (res : Result) : (s.complete res).r1Valid = s.r1Valid := rfl
@[simp] theorem State.complete_r3 (res : Result) : (s.complete res).r3 = s.r3 := rfl
@[simp] theorem State.complete_cmdArg (res : Result) : (s.complete res).cmdArg = s.cmdArg := rfl
@[simp] theorem State.complete_it (res : Result) : (s.complete res).it = s.it := rfl
@[simp] theorem State.complete_profile (res : Result) : (s.complete res).profile = s.profile := rfl
@[simp] theorem State.complete_csMode (res : Result) : (s.complete res).csMode = s.csMode := rfl
@[simp] theorem State.complete_csLevel (res : Result) : (s.complete res).csLevel = s.csLevel := rfl
@[simp] theorem State.complete_mem (res : Result) : (s.complete res).mem = s.mem := rfl
@[simp] theorem State.complete_cfg (res : Result) : (s.complete res).cfg = s.cfg := rfl
@[simp] theorem State.complete_port (res : Result) : (s.complete res).port = s.port := rfl
@[simp] theorem State.complete_card (res : Result) : (s.complete res).card = s.card := rfl
@[simp] theorem State.complete_detect (res : Result) : (s.complete res).detect = s.detect := rfl
@[simp] theorem State.complete_oracleIx (res : Result) : (s.complete res).oracleIx = s.oracleIx := rfl
@[simp] theorem State.complete_history (res : Result) : (s.complete res).history = .complete res res.isOk (s.goto .idle).view :: s.history := rfl

/-! ### `engineReset` -/

@[simp] theorem State.engineReset_pc : (s.engineReset).pc = .idle := rfl
@[simp] theorem State.engineReset_sess : (s.engineReset).sess = .noCard := rfl
@[simp] theorem State.engineReset_err : (s.engineReset).err = none := rfl
@[simp] theorem State.engineReset_r1 : (s.engineReset).r1 = none := rfl
@[simp] theorem State.engineReset_r1Valid : (s.engineReset).r1Valid = none := rfl
@[simp] theorem State.engineReset_r3 : (s.engineReset).r3 = R3.empty := rfl
@[simp] theorem State.engineReset_cmdArg : (s.engineReset).cmdArg = 0#32 := rfl
@[simp] theorem State.engineReset_it : (s.engineReset).it = 0 := rfl
@[simp] theorem State.engineReset_profile : (s.engineReset).profile = .unconfigured := rfl
@[simp] theorem State.engineReset_csMode : (s.engineReset).csMode = .unconfigured := rfl
@[simp] theorem State.engineReset_csLevel : (s.engineReset).csLevel = .undriven := rfl
@[simp] theorem State.engineReset_mem : (s.engineReset).mem = s.mem := rfl
@[simp] theorem State.engineReset_cfg : (s.engineReset).cfg = s.cfg := rfl
@[simp] theorem State.engineReset_port : (s.engineReset).port = s.port := rfl
@[simp] theorem State.engineReset_card : (s.engineReset).card = s.card := rfl
@[simp] theorem State.engineReset_detect : (s.engineReset).detect = s.detect := rfl
@[simp] theorem State.engineReset_oracleIx : (s.engineReset).oracleIx = s.oracleIx := rfl
@[simp] theorem State.engineReset_history : (s.engineReset).history = s.history := rfl

/-! ### `raiseFail`: rule R232 in both operations -/

@[simp] theorem State.raiseFail_pc (op : Operation) (k : ErrorKind) : (s.raiseFail op k).pc = .done (.fail k) := rfl
@[simp] theorem State.raiseFail_err (op : Operation) (k : ErrorKind) : (s.raiseFail op k).err = some k := rfl
@[simp] theorem State.raiseFail_r1 (op : Operation) (k : ErrorKind) : (s.raiseFail op k).r1 = s.r1 := rfl
@[simp] theorem State.raiseFail_r1Valid (op : Operation) (k : ErrorKind) : (s.raiseFail op k).r1Valid = s.r1Valid := rfl
@[simp] theorem State.raiseFail_r3 (op : Operation) (k : ErrorKind) : (s.raiseFail op k).r3 = s.r3 := rfl
@[simp] theorem State.raiseFail_cmdArg (op : Operation) (k : ErrorKind) : (s.raiseFail op k).cmdArg = s.cmdArg := rfl
@[simp] theorem State.raiseFail_it (op : Operation) (k : ErrorKind) : (s.raiseFail op k).it = s.it := rfl
@[simp] theorem State.raiseFail_profile (op : Operation) (k : ErrorKind) : (s.raiseFail op k).profile = s.profile := rfl
@[simp] theorem State.raiseFail_csMode (op : Operation) (k : ErrorKind) : (s.raiseFail op k).csMode = s.csMode := rfl
@[simp] theorem State.raiseFail_csLevel (op : Operation) (k : ErrorKind) : (s.raiseFail op k).csLevel = s.csLevel := rfl
@[simp] theorem State.raiseFail_mem (op : Operation) (k : ErrorKind) : (s.raiseFail op k).mem = s.mem := rfl
@[simp] theorem State.raiseFail_cfg (op : Operation) (k : ErrorKind) : (s.raiseFail op k).cfg = s.cfg := rfl
@[simp] theorem State.raiseFail_port (op : Operation) (k : ErrorKind) : (s.raiseFail op k).port = s.port := rfl
@[simp] theorem State.raiseFail_card (op : Operation) (k : ErrorKind) : (s.raiseFail op k).card = s.card := rfl
@[simp] theorem State.raiseFail_detect (op : Operation) (k : ErrorKind) : (s.raiseFail op k).detect = s.detect := rfl
@[simp] theorem State.raiseFail_oracleIx (op : Operation) (k : ErrorKind) : (s.raiseFail op k).oracleIx = s.oracleIx := rfl
@[simp] theorem State.raiseFail_history (op : Operation) (k : ErrorKind) : (s.raiseFail op k).history = s.history := rfl

@[simp] theorem State.raiseFail_readBlock_sess (k : ErrorKind) : (s.raiseFail .readBlock k).sess = s.sess := rfl

@[simp] theorem State.raiseFail_init_sess (k : ErrorKind) :
    (s.raiseFail .init k).sess = if k = .cardAbsent then .noCard else .failed := rfl

end Sys2Proof.Machine
end

