-- ==== Sys2Proof/Laws/Ops.lean ====
section
/-! SUPPORT. What the shared operations can do: the exchange, the R3 register, the bounds, and the end of an R1 poll. -/

namespace Sys2Proof.Machine

/-! ### The exchange (rules R101 and R111) -/

theorem xfer_of_some {s : State} {rx : Byte} (h : s.rx? = some rx) (tx : Byte)
    (k : Byte → State → Host.Outcome State Fault Refusal) : xfer tx s k = k rx (s.afterXfer tx rx) := by
  simp [xfer, h]

theorem xfer_of_none {s : State} (h : s.rx? = none) (tx : Byte)
    (k : Byte → State → Host.Outcome State Fault Refusal) : xfer tx s k = .fault .transferStuck := by
  simp [xfer, h]

/-- An exchange goes on only with a byte the transport completed. -/
theorem xfer_next {tx : Byte} {s t : State} {k : Byte → State → Host.Outcome State Fault Refusal}
    (h : xfer tx s k = .next t) : ∃ rx, s.rx? = some rx ∧ k rx (s.afterXfer tx rx) = .next t := by
  cases hrx : s.rx? with
  | none => rw [xfer_of_none hrx] at h; cases h
  | some rx => exact ⟨rx, rfl, by rwa [xfer_of_some hrx] at h⟩

theorem rx?_byte {s : State} {rx : Byte} {rest : List Answer} (h : s.card = .byte rx :: rest) : s.rx? = some rx := by
  simp [State.rx?, h]

/-! ### The R3 register (rule R28) -/

theorem R3.get_set (r : R3) (i j : Fin 5) (v : Byte) : (r.set i v).get j = if j = i then some v else r.get j := by
  fin_cases i <;> fin_cases j <;> rfl

/-- Writing byte i extends the written bytes below i to those below i+1. -/
theorem R3.isSome_below_set {r : R3} {i j : Fin 5} {v : Byte}
    (below : ∀ j : Fin 5, j.val < i.val → (r.get j).isSome = true) (hj : j.val < i.val + 1) :
    ((r.set i v).get j).isSome = true := by
  rw [R3.get_set]
  split_ifs with he
  · rfl
  · exact below j (by omega)

/-! ### Bounds (rules R7, R121, R155 and R177) -/

theorem limitReached_zero {o : Option Nat} (h : limitOk o = true) : limitReached o 0 = false := by
  cases o <;> simp_all [limitOk, limitReached]
  omega

theorem limitReached_eq_true {o : Option Nat} {n : Nat} : limitReached o n = true ↔ ∃ l, o = some l ∧ l ≤ n := by
  cases o <;> simp [limitReached]

theorem limitReached_eq_false {o : Option Nat} {n : Nat} : limitReached o n = false ↔ ∀ l, o = some l → n < l := by
  cases o <;> simp [limitReached]

/-! ### Phases and commands -/

theorem Phase.runs_of_command? {p : Phase} {c : Cmd} (h : p.command? = some c) : p.runs c = true := by
  cases p <;> simp_all [Phase.command?, Phase.runs]

/-- A command with a phase in progress is performed as that phase's event. -/
theorem commandStep_of_runs {c : Cmd} {s : State} (h : s.pc.runs c = true) (arg : Word32) (crc : BitVec 7) :
    commandStep c arg crc s = phaseEvent arg crc s := by
  simp [commandStep, h]

section
variable {s : State} (arg : Word32) (crc : BitVec 7)

theorem phaseEvent_idle (h : s.pc = .idle) : phaseEvent arg crc s = .next s := by simp [phaseEvent, h]
theorem phaseEvent_iDetect (h : s.pc = .iDetect) : phaseEvent arg crc s = detectCard s := by simp [phaseEvent, h]
theorem phaseEvent_iGpio (h : s.pc = .iGpio) : phaseEvent arg crc s = configureGpio s := by simp [phaseEvent, h]
theorem phaseEvent_iSlow (h : s.pc = .iSlow) : phaseEvent arg crc s = selectSlow s := by simp [phaseEvent, h]
theorem phaseEvent_iCsHigh (h : s.pc = .iCsHigh) : phaseEvent arg crc s = raiseCs s := by simp [phaseEvent, h]
theorem phaseEvent_iDummy {j : Nat} (h : s.pc = .iDummy j) : phaseEvent arg crc s = dummyByte j s := by
  simp [phaseEvent, h]
theorem phaseEvent_iDelay (h : s.pc = .iDelay) : phaseEvent arg crc s = stabilize s := by simp [phaseEvent, h]
theorem phaseEvent_iCsLow (h : s.pc = .iCsLow) : phaseEvent arg crc s = lowerCs s := by simp [phaseEvent, h]
theorem phaseEvent_iFlush {j : Fin 3} (h : s.pc = .iFlush j) : phaseEvent arg crc s = flushByte j s := by
  simp [phaseEvent, h]
theorem phaseEvent_sReady {c : Cmd} {n : Nat} (h : s.pc = .sReady c n) : phaseEvent arg crc s = readyWait c n s := by
  simp [phaseEvent, h]
theorem phaseEvent_sFrame {c : Cmd} {j : Fin 6} (h : s.pc = .sFrame c j) :
    phaseEvent arg crc s = sendFrameByte c arg crc j s := by simp [phaseEvent, h]
theorem phaseEvent_pR1 {c : Cmd} {k : Fin 8} (h : s.pc = .pR1 c k) : phaseEvent arg crc s = pollR1 c k s := by
  simp [phaseEvent, h]
theorem phaseEvent_pR3 {c : Cmd} {i : Fin 5} (h : s.pc = .pR3 c i) : phaseEvent arg crc s = readOcr c i s := by
  simp [phaseEvent, h]
theorem phaseEvent_tToken {n : Nat} (h : s.pc = .tToken n) : phaseEvent arg crc s = tokenWait n s := by
  simp [phaseEvent, h]
theorem phaseEvent_bData {i : Fin 512} (h : s.pc = .bData i) : phaseEvent arg crc s = dataByte i s := by
  simp [phaseEvent, h]
theorem phaseEvent_bWrite {i : Fin 512} {v : Byte} (h : s.pc = .bWrite i v) :
    phaseEvent arg crc s = storeByte i v s := by simp [phaseEvent, h]
theorem phaseEvent_bCrc {j : Fin 2} (h : s.pc = .bCrc j) : phaseEvent arg crc s = crcByte j s := by
  simp [phaseEvent, h]
theorem phaseEvent_iFast (h : s.pc = .iFast) : phaseEvent arg crc s = selectFast s := by simp [phaseEvent, h]
theorem phaseEvent_iHandoff (h : s.pc = .iHandoff) : phaseEvent arg crc s = handoffCs s := by simp [phaseEvent, h]
theorem phaseEvent_done {res : Result} (h : s.pc = .done res) : phaseEvent arg crc s = .next (s.complete res) := by
  simp [phaseEvent, h]

end

end Sys2Proof.Machine
end

