-- ==== Sys2Proof/Laws/PerInstr.lean ====
section
/-! SUPPORT. The per-instruction family `TableRow`: the encoding of each instruction lies in its row of
spec/opcode_table.json, under the row's mask and match. -/

namespace Sys2Proof.Laws.TableRow

/-- A frame word lies in the row of the command index `b0`: the row's match is `b0` in bits 47:40 and the stop bit. -/
def frameRow (w : CodeWord) (matchBits : BitVec 48) : Prop :=
  ∃ v, w = .frame v ∧ v &&& 0xFF0000000001#48 = matchBits

/-- A request word lies in the row of the operation `matchBits`. -/
def requestRow (w : CodeWord) (matchBits : BitVec 34) : Prop :=
  ∃ v, w = .request v ∧ v &&& 0x300000000#34 = matchBits

/-- The encoding of an instruction lies in its row of the opcode table. -/
def Statement : Instr → Prop
  | .cmd0 arg crc => frameRow (encode (.cmd0 arg crc)) 0x400000000001#48
  | .cmd8 arg crc => frameRow (encode (.cmd8 arg crc)) 0x480000000001#48
  | .cmd55 arg crc => frameRow (encode (.cmd55 arg crc)) 0x770000000001#48
  | .acmd41 arg crc => frameRow (encode (.acmd41 arg crc)) 0x690000000001#48
  | .cmd58 arg crc => frameRow (encode (.cmd58 arg crc)) 0x7A0000000001#48
  | .cmd17 arg crc => frameRow (encode (.cmd17 arg crc)) 0x510000000001#48
  | .init addr => requestRow (encode (.init addr)) 0x100000000#34
  | .readBlock addr => requestRow (encode (.readBlock addr)) 0x200000000#34

/-- Under the table's mask a frame keeps its start bits, its index and its stop bit. -/
theorem frameWord_masked (idx : BitVec 6) (arg : Word32) (crc : BitVec 7) :
    frameWord idx arg crc &&& 0xFF0000000001#48 = 0b01#2 ++ idx ++ 0#39 ++ 1#1 := by
  have hm : (0xFF0000000001#48) = BitVec.allOnes 8 ++ 0#39 ++ 1#1 := by decide
  rw [hm]
  ext i hi
  simp only [frameWord, BitVec.getElem_and, BitVec.getElem_append, BitVec.getElem_allOnes]
  grind

/-- Under the table's mask a request keeps its `op`. -/
theorem requestWord_masked (op : BitVec 2) (addr : Word32) :
    requestWord op addr &&& 0x300000000#34 = op ++ 0#32 := by
  have hm : (0x300000000#34) = BitVec.allOnes 2 ++ 0#32 := by decide
  rw [hm]
  ext i hi
  simp only [requestWord, BitVec.getElem_and, BitVec.getElem_append, BitVec.getElem_allOnes]
  grind

end Sys2Proof.Laws.TableRow

theorem Sys2Proof.Laws.TableRow.cmd0 (arg : Sys2Proof.Word32) (crc : BitVec 7) :
    Sys2Proof.Laws.TableRow.Statement (.cmd0 arg crc) :=
  ⟨_, rfl, (Sys2Proof.Laws.TableRow.frameWord_masked _ arg crc).trans (by decide)⟩

theorem Sys2Proof.Laws.TableRow.cmd8 (arg : Sys2Proof.Word32) (crc : BitVec 7) :
    Sys2Proof.Laws.TableRow.Statement (.cmd8 arg crc) :=
  ⟨_, rfl, (Sys2Proof.Laws.TableRow.frameWord_masked _ arg crc).trans (by decide)⟩

theorem Sys2Proof.Laws.TableRow.cmd55 (arg : Sys2Proof.Word32) (crc : BitVec 7) :
    Sys2Proof.Laws.TableRow.Statement (.cmd55 arg crc) :=
  ⟨_, rfl, (Sys2Proof.Laws.TableRow.frameWord_masked _ arg crc).trans (by decide)⟩

theorem Sys2Proof.Laws.TableRow.acmd41 (arg : Sys2Proof.Word32) (crc : BitVec 7) :
    Sys2Proof.Laws.TableRow.Statement (.acmd41 arg crc) :=
  ⟨_, rfl, (Sys2Proof.Laws.TableRow.frameWord_masked _ arg crc).trans (by decide)⟩

theorem Sys2Proof.Laws.TableRow.cmd58 (arg : Sys2Proof.Word32) (crc : BitVec 7) :
    Sys2Proof.Laws.TableRow.Statement (.cmd58 arg crc) :=
  ⟨_, rfl, (Sys2Proof.Laws.TableRow.frameWord_masked _ arg crc).trans (by decide)⟩

theorem Sys2Proof.Laws.TableRow.cmd17 (arg : Sys2Proof.Word32) (crc : BitVec 7) :
    Sys2Proof.Laws.TableRow.Statement (.cmd17 arg crc) :=
  ⟨_, rfl, (Sys2Proof.Laws.TableRow.frameWord_masked _ arg crc).trans (by decide)⟩

theorem Sys2Proof.Laws.TableRow.init (addr : Sys2Proof.Word32) :
    Sys2Proof.Laws.TableRow.Statement (.init addr) :=
  ⟨_, rfl, (Sys2Proof.Laws.TableRow.requestWord_masked _ addr).trans (by decide)⟩

theorem Sys2Proof.Laws.TableRow.readBlock (addr : Sys2Proof.Word32) :
    Sys2Proof.Laws.TableRow.Statement (.readBlock addr) :=
  ⟨_, rfl, (Sys2Proof.Laws.TableRow.requestWord_masked _ addr).trans (by decide)⟩
end

