-- ==== Sys2Proof/Laws/Step.lean ====
section
/-! SUPPORT. What a step can do, said once: the engine's move is its phase's event, and a step is that, a request
accepted, a wait or a reset. -/

namespace Sys2Proof.Machine

/-- Executing a command's frame is one step of the command. -/
theorem exec_command (c : Cmd) (arg : Word32) (crc : BitVec 7) (s : State) :
    exec (Instr.command c arg crc) s = commandStep c arg crc s := by
  cases c <;> rfl

/-- Fetching, decoding and executing is the sequencer's own event, in every state. -/
theorem running_eq_engineEvent (s : State) : running s = engineEvent s := by
  unfold running
  cases hc : s.pc.command? with
  | some c =>
    have hdec : decode (encode (Instr.command c s.cmdArg (s.cfg.templateCrc c)))
        = .ok (Instr.command c s.cmdArg (s.cfg.templateCrc c)) := by
      obtain ⟨h1, h2, h3, h4, h5⟩ := frameWord_fields c.index s.cmdArg (s.cfg.templateCrc c)
      have hw : encode (Instr.command c s.cmdArg (s.cfg.templateCrc c))
          = .frame (frameWord c.index s.cmdArg (s.cfg.templateCrc c)) := by cases c <;> rfl
      have hidx : commandOfIndex c.index = some c := commandOfIndex_eq_some.mpr rfl
      rw [hw]
      simp [decode, decodeFrame, h1, h2, h3, h4, h5, hidx]
    simp only [State.fetchWord, hc, hdec, exec_command, commandStep_of_runs (Phase.runs_of_command? hc), engineEvent,
      State.frameCrc]
  | none =>
    cases ho : s.pc.operation? with
    | none => simp [State.fetchWord, hc, ho]
    | some o =>
      cases o <;>
        simp [State.fetchWord, hc, ho, encode, decode, decodeRequest, requestWord_fields, exec, execInit, execReadBlock]

/-- A presented word that lets the machine go on is no request, or a request in `Idle`. -/
theorem presented_next {req : BitVec 34} {s t : State} (h : presented req s = .next t) :
    running s = .next t ∨ (s.pc = .idle ∧ ∃ addr, exec (.init addr) s = .next t)
      ∨ (s.pc = .idle ∧ ∃ addr, exec (.readBlock addr) s = .next t) := by
  unfold presented at h
  split at h
  · rename_i i hi
    split_ifs at h with hidle
    obtain rfl | rfl := decodeRequest_ok hi
    · exact .inr (.inl ⟨hidle, _, h⟩)
    · exact .inr (.inr ⟨hidle, _, h⟩)
  · exact .inl h
  · cases h

/-- What accepting INIT does (rule R100). -/
theorem exec_init_idle {s : State} (h : s.pc = .idle) (addr : Word32) :
    exec (.init addr) s = .next (s.goto .iDetect) := by
  simp [exec, execInit, h, Phase.operation?]

/-- What accepting READ_BLOCK does (rule R100). -/
theorem exec_readBlock_idle {s : State} (h : s.pc = .idle) (addr : Word32) :
    exec (.readBlock addr) s =
      if s.sess = .ready then .next (s.send .cmd17 (addressArg s.cfg.addrBits addr)) else .fault .notReady := by
  simp [exec, execReadBlock, h, Phase.operation?]

/-- Everything a step that goes on can be: from a state `u` that differs from `s` at most in what is left of the port,
the engine's event, a request accepted in `Idle`, nothing, or the engine reset. -/
theorem step_next {s t : State} (h : step s = .next t) :
    ∃ p, (engineEvent { s with port := p } = .next t)
      ∨ (s.pc = .idle ∧ t = State.goto .iDetect { s with port := p })
      ∨ (s.pc = .idle ∧ s.sess = .ready ∧ ∃ addr, t = State.send .cmd17 (addressArg s.cfg.addrBits addr) { s with port := p })
      ∨ (s.pc = .idle ∧ t = { s with port := p })
      ∨ t = State.engineReset { s with port := p } := by
  have run : ∀ {u : State}, running u = .next t → engineEvent u = .next t := fun h => by
    rwa [running_eq_engineEvent] at h
  unfold step portStep at h
  split at h
  · exact ⟨s.port, .inl (run h)⟩
  · cases h; exact ⟨_, .inr (.inr (.inr (.inr rfl)))⟩
  · obtain h | ⟨hi, a, h⟩ | ⟨hi, a, h⟩ := presented_next h
    · exact ⟨_, .inl (run h)⟩
    · rw [exec_init_idle hi] at h; cases h
      exact ⟨_, .inr (.inl ⟨hi, rfl⟩)⟩
    · rw [exec_readBlock_idle hi] at h
      split_ifs at h with hr
      cases h
      exact ⟨_, .inr (.inr (.inl ⟨hi, hr, a, rfl⟩))⟩
  · split_ifs at h with hi
    · cases h; exact ⟨_, .inr (.inr (.inr (.inl ⟨hi, rfl⟩)))⟩
    · exact ⟨s.port, .inl (run h)⟩

end Sys2Proof.Machine
end

