-- ==== Sys2Proof/Tests/Slice0.lean ====
section
/-! SUPPORT. The model's own tests. Expected results come from the encoding tables of 30_encoding.md and the vectors of
95_test_vectors.md (V-…). The `witness_` theorems show, for each statement with hypotheses, states and operands that meet
them, one for each clause. -/

namespace Sys2Proof.Tests

open Sys2Proof Sys2Proof.Machine

/-- The reset machine in a phase, with a script of card answers. -/
def stateAt (p : Phase) (card : List Answer) : State := { State.reset with pc := p, card := card }

/-- The standard configuration with these limits. -/
def limited (ready acmd41 token : Option Nat) : Config :=
  { Config.standard with readyLimit := ready, acmd41Limit := acmd41, tokenLimit := token }

/-- The machine in a phase whose exchange the card answers with one byte, under limits of 2. -/
def limitedAt (p : Phase) (rx : Byte) : State :=
  { stateAt p [.byte rx] with cfg := limited (some 2) (some 2) (some 2) }

/-- The machine in a phase of INIT after the power-on step. -/
def initAt (p : Phase) (sess : Session) (card : List Answer) : State :=
  { stateAt p card with sess := sess, profile := .slow, csMode := .manual, csLevel := .low }

/-- The machine in a phase of READ_BLOCK after a successful INIT. -/
def readAt (p : Phase) (card : List Answer) : State :=
  { stateAt p card with sess := .ready, profile := .fast, csMode := .hardware }

/-- The next state of an outcome, if it is one. -/
def next? : Host.Outcome State Fault Refusal → Option State
  | .next t => some t
  | _ => none

/-- The fault of an outcome, if it is one. -/
def fault? : Host.Outcome State Fault Refusal → Option Fault
  | .fault f => some f
  | _ => none

/-- The refusal of an outcome, if it is one. -/
def refusal? : Host.Outcome State Fault Refusal → Option Refusal
  | .refused r => some r
  | _ => none

/-! ### Well-formedness: the standard terms pass, and each check refuses an ill-formed one -/

theorem test_standard_config_wellFormed : Config.standard.wellFormed = true := by decide
theorem test_wf_too_few_dummy_bytes : { Config.standard with nDummyBytes := 9 }.wellFormed = false := by decide
theorem test_wf_ready_limit_zero : (limited (some 0) none none).wellFormed = false := by decide
theorem test_wf_acmd41_limit_zero : (limited none (some 0) none).wellFormed = false := by decide
theorem test_wf_token_limit_zero : (limited none none (some 0)).wellFormed = false := by decide
theorem test_wf_check_pattern :
    { Config.standard with templates := Templates.standard.set .cmd8 ⟨0x000001AB#32, 0x43#7⟩ }.wellFormed = false := by
  decide
theorem test_wf_address_bits : { Config.standard with addrBits := 33 }.wellFormed = false := by decide
theorem test_wf_frame : (Instr.cmd8 0x000001AA#32 0x43#7).wellFormed Config.standard = true := by decide
theorem test_wf_frame_crc : (Instr.cmd0 0#32 0x4B#7).wellFormed Config.standard = false := by decide
theorem test_wf_frame_argument : (Instr.acmd41 0#32 0x3B#7).wellFormed Config.standard = false := by decide
theorem test_wf_cmd17_any_argument : (Instr.cmd17 0xFFFFFFFF#32 0x2A#7).wellFormed Config.standard = true := by decide
theorem test_wf_address_too_wide :
    (Instr.readBlock 0x10000#32).wellFormed { Config.standard with addrBits := 16 } = false := by decide

/-! ### Decoding: words written out bit by bit from the tables of rules R70, R75 and R85 -/

/-- The frame `40 00 00 00 00 95`. -/
theorem test_decode_cmd0 :
    decodeTableWord 48 0b010000000000000000000000000000000000000010010101 = some (.cmd0 0x00000000#32 0x4A#7) := by decide
/-- The frame `48 00 00 01 AA 87`. -/
theorem test_decode_cmd8 :
    decodeTableWord 48 0b010010000000000000000000000000011010101010000111 = some (.cmd8 0x000001AA#32 0x43#7) := by decide
/-- The frame `77 00 00 00 00 65`. -/
theorem test_decode_cmd55 :
    decodeTableWord 48 0b011101110000000000000000000000000000000001100101 = some (.cmd55 0x00000000#32 0x32#7) := by decide
/-- The frame `69 40 00 00 00 77`. -/
theorem test_decode_acmd41 :
    decodeTableWord 48 0b011010010100000000000000000000000000000001110111 = some (.acmd41 0x40000000#32 0x3B#7) := by decide
/-- The frame `7A 00 00 00 00 FD`. -/
theorem test_decode_cmd58 :
    decodeTableWord 48 0b011110100000000000000000000000000000000011111101 = some (.cmd58 0x00000000#32 0x7E#7) := by decide
/-- The frame `51 12 34 56 78 55`. -/
theorem test_decode_cmd17 :
    decodeTableWord 48 0b010100010001001000110100010101100111100001010101 = some (.cmd17 0x12345678#32 0x2A#7) := by decide
/-- `op = 01`, its address ignored but kept. -/
theorem test_decode_init :
    decodeTableWord 40 0b0100000000000000000000000000000011 = some (.init 0x00000003#32) := by decide
/-- `op = 10` with address `0x80000001`. -/
theorem test_decode_readBlock :
    decodeTableWord 40 0b1010000000000000000000000000000001 = some (.readBlock 0x80000001#32) := by decide
/-- The wire bytes of a frame, most significant byte first (vector V-E2). -/
theorem test_wireBytes_cmd17 :
    wireBytes (frameWord Cmd.cmd17.index 0x12345678#32 0x2A#7) = [0x51#8, 0x12#8, 0x34#8, 0x56#8, 0x78#8, 0x55#8] := by
  decide
/-- The limits of byte 0 and byte 5 (vector V-E3). -/
theorem test_start_and_stop_byte_limits :
    startByte 63#6 = 0x7F#8 ∧ startByte 0#6 = 0x40#8 ∧ stopByte 0x7F#7 = 0xFF#8 ∧ stopByte 0#7 = 0x01#8 := by decide
theorem test_reject_start_bits : decodeFrame 0xC00000000095#48 = .error .badStart := by rfl
theorem test_reject_stop_bit : decodeFrame 0x400000000094#48 = .error .badStop := by rfl
/-- CMD9 is not a form of this engine (rule R86). -/
theorem test_reject_unknown_index : decodeFrame 0x490000000001#48 = .error (.unknownIndex 9#6) := by rfl
theorem test_reject_frame_of_five_bytes :
    decodeBytes [0x40#8, 0x00#8, 0x00#8, 0x00#8, 0x00#8] = .error (.frameLength 5) := by rfl
theorem test_reject_no_request : decodeRequest 0x000000000#34 = .error .noRequest := by rfl
theorem test_reject_reserved_request : decodeRequest 0x300000000#34 = .error .reservedRequest := by rfl

/-- The codes of rule R25's table. -/
theorem test_err_codes :
    errCode none = 0 ∧ errCode (some .cardAbsent) = 1 ∧ errCode (some .initializationFailed) = 4
      ∧ errCode (some .readFailed) = 7 := by decide

/-! ### One step of each instruction -/

/-- Vector V-I2: `0x01` passes the Reset step. -/
theorem test_cmd0_r1_01_passes :
    (next? (exec (.cmd0 0#32 0x4A#7) (stateAt (.pR1 .cmd0 0) [.byte 0x01#8]))).map (fun t => (t.pc, t.sess, t.cmdArg))
      = some (.sReady .cmd8 0, .reset, 0x000001AA#32) := by decide
/-- Vector V-I2: `0x05` has bit 0 set and fails. -/
theorem test_cmd0_r1_05_fails :
    (next? (exec (.cmd0 0#32 0x4A#7) (stateAt (.pR1 .cmd0 0) [.byte 0x05#8]))).map (fun t => (t.pc, t.sess, t.r1))
      = some (.done (.fail .resetFailed), .failed, some 0x05#8) := by decide
/-- Vector V-I3: only `r3[4]` is tested. -/
theorem test_cmd8_pattern_passes :
    (next? (exec (.cmd8 0x000001AA#32 0x43#7) { stateAt (.pR3 .cmd8 4) [.byte 0xAA#8] with it := 7 })).map
      (fun t => (t.pc, t.sess, t.it)) = some (.sReady .cmd55 0, .verified, 0) := by decide
/-- Program P2: the frame's last byte is `87`, and the R1 poll follows. -/
theorem test_cmd8_last_frame_byte :
    (next? (exec (.cmd8 0x000001AA#32 0x43#7) (stateAt (.sFrame .cmd8 5) [.byte 0x00#8]))).map
      (fun t => (t.pc, t.history)) = some (.pR1 .cmd8 0, [.xfer 0x87#8 0x00#8 .unconfigured .unconfigured .undriven]) := by
  decide
/-- Vector V-I4: the R1 of CMD55 is not tested. -/
theorem test_cmd55_r1_not_tested :
    (next? (exec (.cmd55 0#32 0x32#7) (stateAt (.pR1 .cmd55 0) [.byte 0x05#8]))).map (fun t => (t.pc, t.cmdArg))
      = some (.sReady .acmd41 0, 0x40000000#32) := by decide
/-- Vector V-R5: the 8th poll ends the read with `0x80`, not valid. -/
theorem test_cmd55_poll_exhausted :
    (next? (exec (.cmd55 0#32 0x32#7) (stateAt (.pR1 .cmd55 7) [.byte 0x80#8]))).map (fun t => (t.r1, t.r1Valid))
      = some (some 0x80#8, some false) := by decide
/-- Vector V-I4: `7E` has bit 0 clear and exits the loop. -/
theorem test_acmd41_7e_exits :
    (next? (exec (.acmd41 0x40000000#32 0x3B#7) (stateAt (.pR1 .acmd41 0) [.byte 0x7E#8]))).map
      (fun t => (t.pc, t.sess, t.it)) = some (.sReady .cmd58 0, .initialized, 1) := by decide
/-- Vector V-I4: under a bound of 2 the second round with bit 0 set fails. -/
theorem test_acmd41_bound :
    (next? (exec (.acmd41 0x40000000#32 0x3B#7) { limitedAt (.pR1 .acmd41 0) 0x01#8 with it := 1 })).map
      (fun t => (t.pc, t.sess, t.err)) = some (.done (.fail .responseTimeout), .failed, some .responseTimeout) := by decide
/-- Vector V-I5: `[00, C0, FF, 80, 00]` passes. -/
theorem test_cmd58_ccs_set_passes :
    (next? (exec (.cmd58 0#32 0x7E#7) { stateAt (.pR3 .cmd58 4) [.byte 0x00#8] with
      r3 := ⟨some 0x00#8, some 0xC0#8, some 0xFF#8, some 0x80#8, none⟩ })).map (fun t => t.pc) = some .iFast := by decide
/-- Vector V-I6: `0x40` in `r3[2]` is not CCS. -/
theorem test_cmd58_ccs_position :
    (next? (exec (.cmd58 0#32 0x7E#7) { stateAt (.pR3 .cmd58 4) [.byte 0x00#8] with
      r3 := ⟨some 0x00#8, some 0x00#8, some 0x40#8, some 0x00#8, none⟩ })).map (fun t => (t.pc, t.sess))
      = some (.done (.fail .capacityCheckFailed), .failed) := by decide
/-- Vectors V-B1 and V-B5: an address error fails the read and leaves the session. -/
theorem test_cmd17_address_error :
    (next? (exec (.cmd17 0x10#32 0x2A#7) (readAt (.pR1 .cmd17 0) [.byte 0x20#8]))).map (fun t => (t.pc, t.sess, t.err))
      = some (.done (.fail .readFailed), .ready, some .readFailed) := by decide
/-- Vector V-T5: under a bound of 2 the token on the second exchange is found. -/
theorem test_cmd17_token_on_the_last_exchange :
    (next? (exec (.cmd17 0x10#32 0x2A#7) (limitedAt (.tToken 1) 0xFE#8))).map (fun t => t.pc) = some (.bData 0) := by decide
/-- Vector V-H6: INIT is accepted in a failed session. -/
theorem test_init_accepted_when_failed :
    (next? (exec (.init 0#32) { State.reset with sess := .failed })).map (fun t => (t.pc, t.sess))
      = some (.iDetect, .failed) := by decide
/-- Vector V-I1: no card. -/
theorem test_init_card_absent :
    (next? (exec (.init 0#32) { stateAt .iDetect [] with detect := [false], sess := .ready })).map
      (fun t => (t.pc, t.sess, t.history)) = some (.done (.fail .cardAbsent), .noCard, [.cardPresent false]) := by decide
/-- Vector V-H1. -/
theorem test_readBlock_not_ready : fault? (exec (.readBlock 0#32) State.reset) = some .notReady := by decide
/-- Vector V-B2: `FE` is data in the data phase. -/
theorem test_readBlock_stores_fe :
    (next? (exec (.readBlock 0#32) (readAt (.bWrite 0 0xFE#8) []))).map (fun t => (t.pc, t.mem))
      = some (.bData 1, [(0, 0xFE#8)]) := by decide

/-! ### The host's port -/

/-- Vector V-H3. -/
theorem test_port_overlap :
    fault? (step { stateAt (.sReady .cmd8 0) [] with port := [.present 0x100000000#34] }) = some .hostOverlap := by decide
/-- Vector V-H4. -/
theorem test_port_reserved :
    refusal? (step { State.reset with port := [.present 0x300000000#34] }) = some .reservedRequest := by decide
/-- Vector V-H5. -/
theorem test_port_no_request :
    (next? (step { State.reset with port := [.present 0x000000000#34] })).map (fun t => (t.pc, t.history))
      = some (.idle, []) := by decide
/-- Vector V-H7: a reset in `B_Data(100)` leaves the bytes written and records nothing. -/
theorem test_port_reset_in_a_read :
    (next? (step { readAt (.bData 100) [] with port := [.reset], mem := [(99, 0x63#8)] })).map
      (fun t => (t.pc, t.sess, t.mem, t.history)) = some (.idle, .noCard, [(99, 0x63#8)], []) := by decide
/-- A placed frame is the next the machine runs: the reset machine enters CMD0's ready-wait, and `00` does not end it. -/
theorem test_placed_frame_runs :
    (next? (step { State.reset.withFetchWord 48 0x400000000001 with card := [.byte 0x00#8] })).map (fun t => t.pc)
      = some (.sReady .cmd0 1) := by decide
/-- A placed INIT request is accepted by the next step. -/
theorem test_placed_request_runs :
    (next? (step (State.reset.withFetchWord 40 0x100000000))).map (fun t => t.pc) = some .iDetect := by decide

/-! ### Witnesses: states and operands that meet each statement's hypotheses -/

theorem witness_EncodeDecodeRoundTrip :
    decode (.frame 0x400000000095#48) = .ok (.cmd0 0#32 0x4A#7) ∧ decode (.request 0x1FFFFFFFF#34) = .ok (.init 0xFFFFFFFF#32) :=
  ⟨rfl, rfl⟩

theorem witness_StepRunsFetchedInstruction :
    (stateAt (.sReady .cmd0 0) []).port = []
      ∧ (stateAt (.sReady .cmd0 0) []).fetchWord = some (.frame 0x400000000095#48)
      ∧ decode (.frame 0x400000000095#48) = .ok (.cmd0 0#32 0x4A#7) :=
  ⟨rfl, rfl, rfl⟩

theorem witness_StepRunsPresentedRequest :
    { State.reset with port := [.present 0x100000000#34] }.port = .present 0x100000000#34 :: []
      ∧ State.reset.pc = .idle ∧ decode (.request 0x100000000#34) = .ok (.init 0#32) :=
  ⟨rfl, rfl, rfl⟩

theorem witness_PlacedWordRunsNext :
    decodeTableWord 48 0x510000000001 = some (.cmd17 0#32 0#7) ∧ decodeTableWord 40 0x200000000 = some (.readBlock 0#32)
      ∧ decodeTableWord 34 0x100000000 = some (.init 0#32) :=
  ⟨rfl, rfl, rfl⟩

theorem witness_OperationExpandsInPlace :
    (stateAt (.pR3 .cmd58 4) []).port = [] ∧ (stateAt (.pR3 .cmd58 4) []).pc.operation? = some .init
      ∧ (stateAt (.pR3 .cmd58 4) []).pc.command? = some .cmd58
      ∧ (stateAt (.bCrc 1) []).port = [] ∧ (stateAt (.bCrc 1) []).pc.operation? = some .readBlock :=
  ⟨rfl, rfl, rfl, rfl, rfl⟩

theorem witness_BusyRequestOverlaps :
    { stateAt (.done .ok) [] with port := [.present 0x200000000#34] }.port = .present 0x200000000#34 :: []
      ∧ (stateAt (.done .ok) []).pc ≠ .idle ∧ decode (.request 0x200000000#34) = .ok (.readBlock 0#32) :=
  ⟨rfl, by decide, rfl⟩

theorem witness_ReservedRequestRefused :
    { State.reset with port := [.present 0x300000000#34] }.port = .present (0b11#2 ++ 0#32) :: []
      ∧ { stateAt (.bData 0) [] with port := [.present 0x3FFFFFFFF#34] }.port = .present (0b11#2 ++ 0xFFFFFFFF#32) :: [] :=
  ⟨rfl, rfl⟩

theorem witness_NoRequestLetsTheEngineMove :
    { State.reset with port := [.present 0x000000000#34] }.port = .present (0b00#2 ++ 0#32) :: []
      ∧ State.reset.pc = .idle ∧ State.reset.port = [] :=
  ⟨rfl, rfl, rfl⟩

theorem witness_EngineResetAtAnyTime : { stateAt (.bData 100) [] with port := [.reset] }.port = .reset :: [] := rfl

/-- One witness for each clause, the two bounded ones at the last count that goes on and the first that fails. -/
theorem witness_ReadyWaitExchange :
    ((limitedAt (.sReady .cmd17 1) 0xFF#8).pc = .sReady .cmd17 1 ∧ (limitedAt (.sReady .cmd17 1) 0xFF#8).rx? = some 0xFF#8)
      ∧ ((limitedAt (.sReady .cmd8 0) 0x80#8).rx? = some 0x80#8 ∧ (0x80#8 ≠ 0xFF#8)
        ∧ ∀ l, (limitedAt (.sReady .cmd8 0) 0x80#8).cfg.readyLimit = some l → 0 + 1 < l)
      ∧ ((limitedAt (.sReady .cmd8 1) 0x80#8).rx? = some 0x80#8
        ∧ (limitedAt (.sReady .cmd8 1) 0x80#8).cfg.readyLimit = some 2 ∧ 2 ≤ 1 + 1) := by
  refine ⟨⟨rfl, rfl⟩, ⟨rfl, by decide, fun l h => ?_⟩, rfl, rfl, by decide⟩
  cases h; decide

theorem witness_FrameByteExchange :
    (stateAt (.sFrame .cmd0 0) [.byte 0x00#8]).rx? = some 0x00#8
      ∧ (stateAt (.sFrame .cmd0 0) [.byte 0x00#8]).pc = .sFrame .cmd0 (Fin.castSucc 0)
      ∧ (wireBytes (frameWord Cmd.cmd0.index 0#32 0x4A#7))[0]? = some 0x40#8
      ∧ (stateAt (.sFrame .cmd8 4) [.byte 0x00#8]).pc = .sFrame .cmd8 (Fin.castSucc 4)
      ∧ (wireBytes (frameWord Cmd.cmd8.index 0x000001AA#32 0x43#7))[4]? = some 0xAA#8
      ∧ (stateAt (.sFrame .cmd8 5) [.byte 0x00#8]).pc = .sFrame .cmd8 5
      ∧ (wireBytes (frameWord Cmd.cmd8.index 0x000001AA#32 0x43#7))[5]? = some 0x87#8 := by
  decide

theorem witness_CommandStartsBySend :
    State.reset.pc.runs .cmd0 = false ∧ (stateAt (.pR1 .cmd8 0) []).pc.runs .cmd0 = false
      ∧ (stateAt (.tToken 0) []).pc.runs .cmd0 = false := by
  decide

theorem witness_SixStepsSendTheFrame :
    (stateAt (.sFrame .cmd0 0) ((List.replicate 6 0xFF#8).map .byte)).pc = .sFrame .cmd0 0
      ∧ (stateAt (.sFrame .cmd0 0) ((List.replicate 6 0xFF#8).map .byte)).port = []
      ∧ (stateAt (.sFrame .cmd0 0) ((List.replicate 6 0xFF#8).map .byte)).card
        = [.byte 0xFF#8, .byte 0xFF#8, .byte 0xFF#8, .byte 0xFF#8, .byte 0xFF#8, .byte 0xFF#8]
      ∧ wireBytes (frameWord Cmd.cmd0.index 0#32 (Config.standard.templateCrc .cmd0))
        = [0x40#8, 0x00#8, 0x00#8, 0x00#8, 0x00#8, 0x95#8] := by
  decide

/-- The poll ends on a valid byte at the first poll and on any byte at the 8th, and goes on at the 7th. -/
theorem witness_R1PollExchange :
    ((stateAt (.pR1 .cmd0 0) [.byte 0x7F#8]).rx? = some 0x7F#8 ∧ (0x7F#8).getLsbD 7 = false)
      ∧ ((stateAt (.pR1 .cmd0 7) [.byte 0xFF#8]).rx? = some 0xFF#8
        ∧ (stateAt (.pR1 .cmd0 7) [.byte 0xFF#8]).pc = .pR1 .cmd0 7)
      ∧ ((stateAt (.pR1 .cmd0 6) [.byte 0x80#8]).rx? = some 0x80#8
        ∧ (stateAt (.pR1 .cmd0 6) [.byte 0x80#8]).pc = .pR1 .cmd0 (Fin.castSucc 6) ∧ (0x80#8).getLsbD 7 = true) := by
  decide

theorem witness_R3ReadBeginsWithR1 :
    ((stateAt (.pR1 .cmd8 0) [.byte 0x01#8]).rx? = some 0x01#8 ∧ (0x01#8).getLsbD 7 = false
        ∧ (stateAt (.pR1 .cmd8 0) [.byte 0x01#8]).pc = .pR1 .cmd8 0)
      ∧ ((stateAt (.pR1 .cmd58 7) [.byte 0xFF#8]).rx? = some 0xFF#8
        ∧ (stateAt (.pR1 .cmd58 7) [.byte 0xFF#8]).pc = .pR1 .cmd58 7) := by
  decide

theorem witness_OcrByteExchange :
    (∀ i ∈ [1, 2, 3, 4], ∀ c ∈ [Cmd.cmd8, Cmd.cmd58], (stateAt (.pR3 c i) [.byte 0xFF#8]).rx? = some 0xFF#8
      ∧ (stateAt (.pR3 c i) [.byte 0xFF#8]).pc = .pR3 c i ∧ (c = .cmd8 ∨ c = .cmd58)) := by
  decide

theorem witness_TokenWaitExchange :
    ((limitedAt (.tToken 1) 0xFE#8).pc = .tToken 1 ∧ (limitedAt (.tToken 1) 0xFE#8).rx? = some 0xFE#8)
      ∧ ((limitedAt (.tToken 0) 0xFF#8).rx? = some 0xFF#8 ∧ (0xFF#8 ≠ 0xFE#8)
        ∧ ∀ l, (limitedAt (.tToken 0) 0xFF#8).cfg.tokenLimit = some l → 0 + 1 < l)
      ∧ ((limitedAt (.tToken 1) 0x01#8).rx? = some 0x01#8
        ∧ (limitedAt (.tToken 1) 0x01#8).cfg.tokenLimit = some 2 ∧ 2 ≤ 1 + 1) := by
  refine ⟨⟨rfl, rfl⟩, ⟨rfl, by decide, fun l h => ?_⟩, rfl, rfl, by decide⟩
  cases h; decide

theorem witness_InitAcceptedInIdle : { State.reset with sess := .ready }.pc = .idle := rfl

theorem witness_CardDetectSample :
    { stateAt .iDetect [] with detect := [true] }.pc = .iDetect
      ∧ { stateAt .iDetect [] with detect := [true] }.detect = true :: []
      ∧ { stateAt .iDetect [] with detect := [false, true] }.detect = false :: [true] :=
  ⟨rfl, rfl, rfl⟩

theorem witness_PowerOnEvents :
    (stateAt .iGpio []).pc = .iGpio ∧ (stateAt .iSlow []).pc = .iSlow ∧ (stateAt .iCsHigh []).pc = .iCsHigh
      ∧ ((stateAt (.iDummy 8) [.byte 0x00#8]).pc = .iDummy 8 ∧ (stateAt (.iDummy 8) [.byte 0x00#8]).rx? = some 0x00#8
        ∧ 8 + 1 < (stateAt (.iDummy 8) [.byte 0x00#8]).cfg.nDummyBytes)
      ∧ ((stateAt (.iDummy 9) [.byte 0x00#8]).pc = .iDummy 9 ∧ (stateAt (.iDummy 9) [.byte 0x00#8]).rx? = some 0x00#8
        ∧ (stateAt (.iDummy 9) [.byte 0x00#8]).cfg.nDummyBytes ≤ 9 + 1)
      ∧ (stateAt .iDelay []).pc = .iDelay ∧ (stateAt .iCsLow []).pc = .iCsLow := by
  decide

/-- A state of the invariant in the flush. -/
theorem initAt_flush_inv (j : Fin 3) (card : List Answer) : (initAt (.iFlush j) .poweredOn card).Inv :=
  ⟨test_standard_config_wellFormed, rfl, rfl, by simp [initAt, stateAt, State.reset, State.resetWith], ⟨rfl, rfl, rfl, rfl⟩⟩

/-- A state of the invariant in the dummy exchanges, with chip-select high. -/
theorem initAt_dummy_inv (card : List Answer) : { initAt (.iDummy 9) .noCard card with csLevel := .high }.Inv :=
  ⟨test_standard_config_wellFormed, rfl, rfl, by simp [initAt, stateAt, State.reset, State.resetWith], ⟨(by decide : 9 < 10), rfl, rfl, rfl⟩⟩

/-- A state of the invariant in the data phase. -/
theorem readAt_data_inv (i : Fin 512) (card : List Answer) : (readAt (.bData i) card).Inv :=
  ⟨test_standard_config_wellFormed, rfl, rfl, by simp [readAt, stateAt, State.reset, State.resetWith], ⟨rfl, rfl, rfl, rfl⟩⟩

theorem witness_FlushThenCmd0 :
    (∀ j ∈ [0, 1, 2], (initAt (.iFlush j) .poweredOn [.byte 0x00#8]).rx? = some 0x00#8
      ∧ (initAt (.iFlush j) .poweredOn [.byte 0x00#8]).pc = .iFlush j)
      ∧ (initAt (.iFlush 2) .poweredOn [.byte 0x00#8]).Inv :=
  ⟨by decide, initAt_flush_inv _ _⟩

theorem witness_ResetCheck :
    ((stateAt (.pR1 .cmd0 0) [.byte 0x01#8]).pc = .pR1 .cmd0 0 ∧ (stateAt (.pR1 .cmd0 0) [.byte 0x01#8]).rx? = some 0x01#8
        ∧ (0x01#8).getLsbD 7 = false)
      ∧ ((stateAt (.pR1 .cmd0 7) [.byte 0xFF#8]).pc = .pR1 .cmd0 7
        ∧ (stateAt (.pR1 .cmd0 7) [.byte 0xFF#8]).rx? = some 0xFF#8) := by
  decide

theorem witness_VerifyCheck :
    (∀ v ∈ [0xAA#8, 0xAB#8], (stateAt (.pR3 .cmd8 4) [.byte v]).pc = .pR3 .cmd8 4
      ∧ (stateAt (.pR3 .cmd8 4) [.byte v]).rx? = some v) := by
  decide

theorem witness_AppCmdThenAcmd41 :
    (stateAt (.pR1 .cmd55 7) [.byte 0xFF#8]).pc = .pR1 .cmd55 7
      ∧ (stateAt (.pR1 .cmd55 7) [.byte 0xFF#8]).rx? = some 0xFF#8
      ∧ (stateAt (.pR1 .cmd55 0) [.byte 0x05#8]).rx? = some 0x05#8 ∧ (0x05#8).getLsbD 7 = false := by
  decide

/-- One witness for each clause, the two bounded ones at the last round that goes on and the first that fails. -/
theorem witness_Acmd41RoundEnd :
    ((limitedAt (.pR1 .acmd41 0) 0x7E#8).pc = .pR1 .acmd41 0 ∧ (limitedAt (.pR1 .acmd41 0) 0x7E#8).rx? = some 0x7E#8
        ∧ (0x7E#8).getLsbD 7 = false ∧ (0x7E#8).getLsbD 0 = false)
      ∧ ((limitedAt (.pR1 .acmd41 7) 0xFF#8).rx? = some 0xFF#8 ∧ (0xFF#8).getLsbD 0 = true
        ∧ ∀ l, (limitedAt (.pR1 .acmd41 7) 0xFF#8).cfg.acmd41Limit = some l → 0 + 1 < l)
      ∧ ({ limitedAt (.pR1 .acmd41 0) 0x01#8 with it := 1 }.rx? = some 0x01#8 ∧ (0x01#8).getLsbD 0 = true
        ∧ { limitedAt (.pR1 .acmd41 0) 0x01#8 with it := 1 }.cfg.acmd41Limit = some 2 ∧ 2 ≤ 1 + 1) := by
  refine ⟨by decide, ⟨rfl, by decide, fun l h => ?_⟩, rfl, by decide, rfl, by decide⟩
  cases h; decide

theorem witness_CapacityCheck :
    (∀ v1 ∈ [0x40#8, 0x80#8],
      { stateAt (.pR3 .cmd58 4) [.byte 0x00#8] with r3 := ⟨some 0x00#8, some v1, none, none, none⟩ }.pc = .pR3 .cmd58 4
      ∧ { stateAt (.pR3 .cmd58 4) [.byte 0x00#8] with r3 := ⟨some 0x00#8, some v1, none, none, none⟩ }.rx? = some 0x00#8
      ∧ { stateAt (.pR3 .cmd58 4) [.byte 0x00#8] with r3 := ⟨some 0x00#8, some v1, none, none, none⟩ }.r3.b1 = some v1) := by
  decide

theorem witness_ReadyEvents : (stateAt .iFast []).pc = .iFast ∧ (stateAt .iHandoff []).pc = .iHandoff := ⟨rfl, rfl⟩

theorem witness_ReadBlockAcceptedWhenReady :
    (readAt .idle []).pc = .idle ∧ (readAt .idle []).sess = .ready ∧ (readAt .idle []).cfg.addrBits = 32
      ∧ (0xFFFF#32).toNat < 2 ^ { readAt .idle [] with cfg := { Config.standard with addrBits := 16 } }.cfg.addrBits := by
  decide

theorem witness_ReadBlockNotReadyFaults :
    State.reset.pc = .idle ∧ State.reset.sess ≠ .ready ∧ { State.reset with sess := .failed }.sess ≠ .ready := by
  decide

theorem witness_ReadCommandCheck :
    ((readAt (.pR1 .cmd17 0) [.byte 0x00#8]).pc = .pR1 .cmd17 0 ∧ (readAt (.pR1 .cmd17 0) [.byte 0x00#8]).rx? = some 0x00#8
        ∧ (0x00#8).getLsbD 7 = false)
      ∧ ((readAt (.pR1 .cmd17 7) [.byte 0xFF#8]).pc = .pR1 .cmd17 7
        ∧ (readAt (.pR1 .cmd17 7) [.byte 0xFF#8]).rx? = some 0xFF#8) := by
  decide

theorem witness_DataByteIsStored :
    ((readAt (.bData 0) [.byte 0xFF#8]).port = [] ∧ (readAt (.bData 0) [.byte 0xFF#8]).pc = .bData 0
        ∧ (readAt (.bData 0) [.byte 0xFF#8]).rx? = some 0xFF#8 ∧ (0 : Fin 512).val < 511)
      ∧ ((readAt (.bData 510) [.byte 0xFF#8]).port = [] ∧ (readAt (.bData 510) [.byte 0xFF#8]).pc = .bData 510
        ∧ (readAt (.bData 510) [.byte 0xFF#8]).rx? = some 0xFF#8 ∧ (510 : Fin 512).val < 511)
      ∧ ((readAt (.bData 511) [.byte 0xFF#8]).port = [] ∧ (readAt (.bData 511) [.byte 0xFF#8]).pc = .bData 511
        ∧ (readAt (.bData 511) [.byte 0xFF#8]).rx? = some 0xFF#8 ∧ (511 : Fin 512).val = 511) :=
  ⟨⟨rfl, rfl, rfl, by decide⟩, ⟨rfl, rfl, rfl, by decide⟩, rfl, rfl, rfl, rfl⟩

theorem witness_DataPhaseCompletes :
    (∃ a, Instr.readBlock 0#32 = .readBlock a) ∧ (∃ a crc, Instr.cmd17 0#32 0x2A#7 = .cmd17 a crc)
      ∧ (readAt (.bData 511) [.byte 0xFE#8]).pc = .bData 511 ∧ (readAt (.bData 511) [.byte 0xFE#8]).rx? = some 0xFE#8
      ∧ (readAt (.bWrite 510 0xFE#8) []).pc = .bWrite 510 0xFE#8 ∧ (readAt (.bWrite 511 0xFE#8) []).pc = .bWrite 511 0xFE#8 :=
  ⟨⟨_, rfl⟩, ⟨_, _, rfl⟩, rfl, rfl, rfl, rfl⟩

theorem witness_BlockCrcDiscarded :
    (readAt (.bCrc 0) [.byte 0x12#8]).pc = .bCrc 0 ∧ (readAt (.bCrc 0) [.byte 0x12#8]).rx? = some 0x12#8
      ∧ (readAt (.bCrc 1) [.byte 0x34#8]).pc = .bCrc 1 ∧ (readAt (.bCrc 1) [.byte 0x34#8]).rx? = some 0x34#8 := by
  decide

theorem witness_DataPhaseFillsTheBuffer :
    (readAt (.bData 0) ((List.replicate 512 0xFE#8).map .byte)).port = []
      ∧ (readAt (.bData 0) ((List.replicate 512 0xFE#8).map .byte)).pc = .bData 0
      ∧ (List.replicate 512 0xFE#8).length = 512
      ∧ (readAt (.bData 0) ((List.replicate 512 0xFE#8).map .byte)).card = (List.replicate 512 0xFE#8).map .byte ++ [] :=
  ⟨rfl, rfl, List.length_replicate, (List.append_nil _).symm⟩

/-- A ready machine, a READ_BLOCK at its port, and answers that make it succeed: two busy bytes, seven fillers before the R1
and one before the token, each count the last its bound allows. -/
theorem witness_ReadBlockReadsTheBlock :
    ∃ s : State, s.pc = .idle ∧ s.sess = .ready ∧ s.port = [.present (0b10#2 ++ 0x10#32)]
      ∧ (0x10#32).toNat < 2 ^ s.cfg.addrBits
      ∧ (∀ b ∈ [0x00#8, 0x80#8], b ≠ 0xFF#8) ∧ (∀ l, s.cfg.readyLimit = some l → [0x00#8, 0x80#8].length < l)
      ∧ (List.replicate 6 0x00#8).length = 6
      ∧ (∀ b ∈ List.replicate 7 0xFF#8, b.getLsbD 7 = true) ∧ (List.replicate 7 0xFF#8).length < 8
      ∧ (∀ b ∈ [0x01#8], b ≠ 0xFE#8) ∧ (∀ l, s.cfg.tokenLimit = some l → [0x01#8].length < l)
      ∧ (List.replicate 512 0xFE#8).length = 512 ∧ [0x12#8, 0x34#8].length = 2
      ∧ s.card = ([0x00#8, 0x80#8] ++ 0xFF#8 :: List.replicate 6 0x00#8 ++ List.replicate 7 0xFF#8 ++ 0x00#8 :: [0x01#8]
        ++ 0xFE#8 :: List.replicate 512 0xFE#8 ++ [0x12#8, 0x34#8]).map .byte ++ [] := by
  refine ⟨{ readAt .idle _ with port := [.present (0b10#2 ++ 0x10#32)], cfg := limited (some 3) none (some 2) },
    rfl, rfl, rfl, by decide, by decide, fun l h => ?_, rfl, by decide, by decide, by decide, fun l h => ?_,
    List.length_replicate, rfl, rfl⟩
  · cases h; decide
  · cases h; decide

theorem witness_RaiseFailThenComplete : (stateAt (.pR1 .cmd0 0) []).port = [] := rfl

theorem witness_CompleteReturnsToIdle :
    (stateAt (.done .ok) []).pc = .done .ok ∧ (stateAt (.done .ok) []).port = []
      ∧ (stateAt (.done (.fail .readFailed)) []).pc = .done (.fail .readFailed) :=
  ⟨rfl, rfl, rfl⟩

/-- A transport that never completes, in each of the nine kinds of phase that exchange. -/
theorem witness_UncompletedExchangeIsStuck :
    (∀ p ∈ [Phase.iDummy 0, .iFlush 0, .sReady .cmd0 0, .sFrame .cmd0 0, .pR1 .cmd0 0, .pR3 .cmd8 1, .tToken 0, .bData 0,
      .bCrc 0], (stateAt p [.never]).port = [] ∧ (stateAt p [.never]).rx? = none ∧ (stateAt p [.never]).pc = p) := by
  decide

theorem witness_InitCommandFrame :
    Cmd.cmd0 ≠ .cmd17 ∧ (next? (exec (Instr.command .cmd0 0#32 0x4A#7) (stateAt (.pR1 .cmd0 7) [.byte 0x80#8]))).isSome = true
      ∧ (next? (exec (Instr.command .cmd58 0#32 0x7E#7) (stateAt (.sReady .cmd58 0) [.byte 0xFF#8]))).isSome = true := by
  decide

theorem witness_ReadBlockFrame :
    (∃ a, Instr.readBlock 0#32 = .readBlock a) ∧ (∀ j, (readAt (.bWrite 511 0xFE#8) []).pc ≠ .pR3 .cmd17 j)
      ∧ (next? (exec (.readBlock 0#32) (readAt (.bWrite 511 0xFE#8) []))).isSome = true
      ∧ (∃ a crc, Instr.cmd17 0#32 0x2A#7 = .cmd17 a crc)
      ∧ (next? (exec (.cmd17 0#32 0x2A#7) (readAt (.bWrite 511 0xFE#8) []))).isSome = true :=
  ⟨⟨_, rfl⟩, by decide, by decide, ⟨_, _, rfl⟩, by decide⟩

theorem witness_InitFrame :
    (next? (exec (.init 0#32) (stateAt .iSlow []))).isSome = true
      ∧ (next? (exec (.init 0#32) (stateAt (.sFrame .cmd0 0) [.byte 0#8]))).isSome = true := by
  decide

theorem witness_OnlyBufferWritesChangeMemory :
    ∃ t, step (readAt (.bWrite 511 0xFE#8) []) = .next t
      ∧ t.mem.read? 511 ≠ (readAt (.bWrite 511 0xFE#8) []).mem.read? 511 :=
  ⟨_, rfl, by decide⟩

theorem witness_AtMostOneEventAStep : ∃ t, step (stateAt .iFast []) = .next t := ⟨_, rfl⟩

theorem witness_ReadyOnlyByHandoff :
    ∃ t, step (initAt .iHandoff .initialized []) = .next t ∧ t.sess = .ready
      ∧ (initAt .iHandoff .initialized []).sess ≠ .ready :=
  ⟨_, rfl, rfl, by decide⟩

theorem witness_FailedReadLeavesTheBuffer :
    ∃ t, step (readAt (.pR1 .cmd17 0) [.byte 0x20#8]) = .next t ∧ t.pc = .done (.fail .readFailed) :=
  ⟨_, rfl, rfl⟩

theorem witness_InitializationFailedNeverProduced :
    ∃ t, step { State.reset with err := some .initializationFailed } = .next t ∧ t.err = some .initializationFailed :=
  ⟨_, rfl, rfl⟩

theorem witness_NoUnwrittenRead : (initAt (.iFlush 0) .poweredOn []).Inv := initAt_flush_inv _ _

theorem witness_StepKeepsInvariant :
    (readAt (.bData 0) [.byte 0xFE#8]).Inv ∧ ∃ t, step (readAt (.bData 0) [.byte 0xFE#8]) = .next t :=
  ⟨readAt_data_inv _ _, _, rfl⟩

theorem witness_StepKeepsBusDiscipline :
    (readAt (.bData 0) [.byte 0xFE#8]).Inv ∧ (readAt (.bData 0) [.byte 0xFE#8]).Disciplined
      ∧ ∃ t, step (readAt (.bData 0) [.byte 0xFE#8]) = .next t :=
  ⟨readAt_data_inv _ _, fun _ h => (by cases h), _, rfl⟩

/-- A dummy byte and a flush byte of INIT, and a data byte of READ_BLOCK. -/
theorem witness_ExchangesUseTheirProfile :
    ({ initAt (.iDummy 9) .noCard [.byte 0#8] with csLevel := .high }.Inv
        ∧ ∃ t, step { initAt (.iDummy 9) .noCard [.byte 0#8] with csLevel := .high } = .next t
          ∧ t.history = [.xfer 0xFF#8 0#8 .slow .manual .high])
      ∧ ((initAt (.iFlush 0) .poweredOn [.byte 0#8]).Inv
        ∧ ∃ t, step (initAt (.iFlush 0) .poweredOn [.byte 0#8]) = .next t
          ∧ t.history = [.xfer 0xFF#8 0#8 .slow .manual .low])
      ∧ ((readAt (.bData 0) [.byte 0#8]).Inv
        ∧ ∃ t, step (readAt (.bData 0) [.byte 0#8]) = .next t
          ∧ t.history = [.xfer 0xFF#8 0#8 .fast .hardware .undriven]) :=
  ⟨⟨initAt_dummy_inv _, _, rfl, rfl⟩, ⟨initAt_flush_inv _ _, _, rfl, rfl⟩, readAt_data_inv _ _, _, rfl, rfl⟩

end Sys2Proof.Tests
end

section
/-! The response reader (42_response_reader.md): one poll of an R1 read and one byte of an R3 read, as steps of the
command in progress. -/

namespace Sys2Proof.Machine

/-- A received byte is a valid R1 where its bit 7 is clear (rule R29). -/
theorem validR1_eq_true_iff {rx : Byte} : validR1 rx = true ↔ rx.getLsbD 7 = false := by simp [validR1]

/-! ### Executing a command inside its own phases -/

/-- In a phase of its own, a command's frame performs that phase's event (rules R136 to R141). -/
theorem exec_command_eq_phaseEvent {c : Cmd} {s : State} (h : s.pc.command? = some c) (arg : Word32) (crc : BitVec 7) :
    exec (Instr.command c arg crc) s = phaseEvent arg crc s := by
  rw [exec_command, commandStep_of_runs (Phase.runs_of_command? h)]

theorem exec_command_pR1 {c : Cmd} {k : Fin 8} {s : State} (h : s.pc = .pR1 c k) (arg : Word32) (crc : BitVec 7) :
    exec (Instr.command c arg crc) s = pollR1 c k s := by
  rw [exec_command_eq_phaseEvent (by rw [h]; rfl), phaseEvent_pR1 arg crc h]

theorem exec_command_pR3 {c : Cmd} {i : Fin 5} {s : State} (h : s.pc = .pR3 c i) (arg : Word32) (crc : BitVec 7) :
    exec (Instr.command c arg crc) s = readOcr c i s := by
  rw [exec_command_eq_phaseEvent (by rw [h]; rfl), phaseEvent_pR3 arg crc h]

/-! ### What one poll of an R1 read does (rule R150) -/

/-- A valid byte ends the poll, and so does any byte at the 8th poll. -/
theorem pollR1_ends {s : State} {rx : Byte} (hrx : s.rx? = some rx) (c : Cmd) {k : Fin 8}
    (hend : rx.getLsbD 7 = false ∨ k = 7) : pollR1 c k s = .next (endR1 c rx (s.afterXfer filler rx)) := by
  rw [pollR1, xfer_of_some hrx]
  obtain hvalid | rfl := hend
  · rw [if_pos (validR1_eq_true_iff.mpr hvalid)]
  · rw [dif_neg (by decide), ite_self]

/-- An invalid byte before the 8th poll is skipped. -/
theorem pollR1_goes_on {s : State} {rx : Byte} (hrx : s.rx? = some rx) (c : Cmd) (k : Fin 7)
    (hinvalid : rx.getLsbD 7 = true) :
    pollR1 c k.castSucc s = .next ((s.afterXfer filler rx).goto (.pR1 c k.succ)) := by
  have hvalid : ¬ validR1 rx = true := by simp [validR1_eq_true_iff, hinvalid]
  have hmore : k.castSucc.val + 1 < 8 := Nat.succ_lt_succ k.isLt
  rw [pollR1, xfer_of_some hrx, if_neg hvalid, dif_pos hmore]
  rfl

/-! ### What one byte of an R3 read does (rule R153) -/

/-- Before byte 4, the byte is stored and the next one follows. -/
theorem readOcr_goes_on {s : State} {rx : Byte} (hrx : s.rx? = some rx) (c : Cmd) (i : Fin 4) :
    readOcr c i.castSucc s
      = .next { s.afterXfer filler rx with r3 := s.r3.set i.castSucc rx, pc := .pR3 c i.succ } := by
  have hmore : i.castSucc.val + 1 < 5 := Nat.succ_lt_succ i.isLt
  rw [readOcr, xfer_of_some hrx, dif_pos hmore]
  rfl

/-- Byte 4 is stored, and the command's check follows. -/
theorem readOcr_last {s : State} {rx : Byte} (hrx : s.rx? = some rx) (c : Cmd) :
    readOcr c 4 s = if c = .cmd8 then checkVerify { s.afterXfer filler rx with r3 := s.r3.set 4 rx }
      else checkOcr { s.afterXfer filler rx with r3 := s.r3.set 4 rx } := by
  rw [readOcr, xfer_of_some hrx, dif_neg (by decide)]
  rfl

/-! ### The obligations -/

/-- Settles O23: the two ends of a poll, and the skipped byte. -/
theorem r1PollExchange : Obligations.R1PollExchange := by
  intro c arg crc s rx hrx
  constructor
  · intro k hpc hend
    rw [exec_command_pR1 hpc]
    exact pollR1_ends hrx c hend
  · intro k hpc hinvalid
    rw [exec_command_pR1 hpc]
    exact pollR1_goes_on hrx c k hinvalid

/-- Settles O24: the clause of O23 that ends a poll, where `end_r1` of CMD8 and of CMD58 writes `r1` and `r3[0]`
(rules R151 and R152). -/
theorem r3ReadBeginsWithR1 : Obligations.R3ReadBeginsWithR1 := by
  intro arg crc s k v hrx hend
  constructor
  · intro hpc
    exact (r1PollExchange .cmd8 arg crc s v hrx).1 k hpc hend
  · intro hpc
    exact (r1PollExchange .cmd58 arg crc s v hrx).1 k hpc hend

/-- Settles O25: bytes 1 to 3 go on with the next byte, and byte 4 with the check. -/
theorem ocrByteExchange : Obligations.OcrByteExchange := by
  intro c arg crc s rx hrx _
  refine ⟨fun hpc => ?_, fun hpc => ?_, fun hpc => ?_, fun hpc => ?_⟩ <;> rw [exec_command_pR3 hpc]
  · exact readOcr_goes_on hrx c 1
  · exact readOcr_goes_on hrx c 2
  · exact readOcr_goes_on hrx c 3
  · exact readOcr_last hrx c

end Sys2Proof.Machine
end

section
/-! The byte order of a frame's argument (20_memory.md). -/

namespace Sys2Proof.Machine

/-- Settles O5: bytes 1 to 4 are the argument rows of `frame(c, a)` (rule R123), the same for every command and CRC. -/
theorem argumentBytesBigEndian : Obligations.ArgumentBytesBigEndian := by
  intro c arg crc
  exact ⟨rfl, rfl, rfl, rfl⟩

end Sys2Proof.Machine
end

section
/-! The first and the last byte of a frame (30_encoding.md): each is two of the frame word's fields side by side. -/

namespace Sys2Proof.Machine

/-- Byte 0 is the start bits above the index. -/
theorem startByte_eq_append (idx : BitVec 6) : startByte idx = 0b01#2 ++ idx := by
  have hjoin := BitVec.setWidth_append_eq_shiftLeft_setWidth_or (w'' := 8) (b := 0b01#2) (b' := idx)
  rw [BitVec.setWidth_eq] at hjoin
  exact hjoin.symm

/-- Byte 5 is the CRC above the stop bit. -/
theorem stopByte_eq_append (crc : BitVec 7) : stopByte crc = crc ++ 1#1 := by
  have hjoin := BitVec.setWidth_append_eq_shiftLeft_setWidth_or (w'' := 8) (b := crc) (b' := 1#1)
  rw [BitVec.setWidth_eq] at hjoin
  exact hjoin.symm

/-- Settles O4: the two fields of each byte are read back from its append (rules R71 and R72). -/
theorem startAndStopBytes : Obligations.StartAndStopBytes := by
  refine ⟨fun c arg crc => ⟨rfl, rfl⟩, fun idx => ⟨rfl, ?_, ?_, ?_⟩, fun crc => ⟨rfl, ?_, ?_⟩⟩
  · rw [BitVec.getLsbD_setWidth, BitVec.getLsbD_of_ge idx 6 le_rfl, Bool.and_false]
  · rw [startByte_eq_append, BitVec.extractLsb'_append_eq_left]
  · rw [startByte_eq_append, BitVec.extractLsb'_append_eq_right]
  · rw [stopByte_eq_append, BitVec.extractLsb'_append_eq_left]
  · rw [stopByte_eq_append, BitVec.getLsbD_append]
    rfl

end Sys2Proof.Machine
end

section
/-! The data phase of the block reader (44_block_reader.md): the exchange of a data byte and its buffer write, as steps
of the machine. -/

namespace Sys2Proof.Machine

/-- With no host move at the port, a step is the engine's own event (rule R100). -/
theorem step_of_port_nil {s : State} (hport : s.port = []) : step s = engineEvent s := by
  rw [step, portStep, hport]
  exact running_eq_engineEvent s

/-- The first half of `B_Data(i)`: the exchange, with the received byte kept for the write (rule R213). -/
theorem step_bData {s : State} {i : Fin 512} {rx : Byte} (hport : s.port = []) (hpc : s.pc = .bData i)
    (hrx : s.rx? = some rx) : step s = .next ((s.afterXfer filler rx).goto (.bWrite i rx)) := by
  rw [step_of_port_nil hport, engineEvent, phaseEvent_bData _ _ hpc, dataByte, xfer_of_some hrx]

/-- The second half of `B_Data(i)`: the write of the byte received (rule R213). -/
theorem step_bWrite {s : State} {i : Fin 512} {v : Byte} (hport : s.port = []) (hpc : s.pc = .bWrite i v) :
    step s = storeByte i v s := by
  rw [step_of_port_nil hport, engineEvent, phaseEvent_bWrite _ _ hpc]

/-- Settles O40: the exchange of the byte and then its write, whose memory the laws of a write give (rules R109 and
R213). -/
theorem dataByteIsStored : Obligations.DataByteIsStored := by
  intro s i rx hport hpc hrx
  refine ⟨_, _, step_bData hport hpc hrx, step_bWrite hport rfl, rfl, ?_, fun a ha => ?_, fun h => ?_, fun h => ?_⟩
  · exact Memory.read?_write_same s.mem (s.cfg.buf + i.val) rx
  · exact Memory.read?_write_other s.mem rx ha
  · exact dif_pos (Nat.succ_lt_succ h)
  · exact dif_neg (by omega)

end Sys2Proof.Machine
end

section
/-! Raising an error kind and the `COMPLETE` that follows it (60_exceptions.md). -/

namespace Sys2Proof.Machine

/-- In `Done(res)` the engine's own event is the operation's `COMPLETE(res)` (rule R233). -/
theorem step_done {s : State} {res : Result} (hport : s.port = []) (hpc : s.pc = .done res) :
    step s = .next (s.complete res) := by
  rw [step_of_port_nil hport, engineEvent, phaseEvent_done _ _ hpc]

/-- Settles O45: the laws of `raiseFail` give its registers, and its phase `Done(Fail(K))` the `COMPLETE` of the next
step (rules R232 and R233). -/
theorem raiseFailThenComplete : Obligations.RaiseFailThenComplete := by
  intro op k s hport
  have hcomplete : step (s.raiseFail op k) = .next ((s.raiseFail op k).complete (.fail k)) :=
    step_done ((State.raiseFail_port s op k).trans hport) (State.raiseFail_pc s op k)
  refine ⟨State.raiseFail_err s op k, State.raiseFail_pc s op k, State.raiseFail_history s op k, ?_, ?_,
    _, _, hcomplete, State.complete_pc _ _, State.complete_history _ _⟩
  · rintro rfl
    exact State.raiseFail_readBlock_sess s k
  · rintro rfl
    exact State.raiseFail_init_sess s k

end Sys2Proof.Machine
end

section
/-! Encoding (30_encoding.md): the two round trips, the wire bytes of a frame, and which words are instructions. -/

namespace Sys2Proof

/-! ### The two word formats -/

theorem encode_command (c : Cmd) (arg : Word32) (crc : BitVec 7) :
    encode (Instr.command c arg crc) = .frame (frameWord c.index arg crc) := by
  cases c <;> rfl

theorem decodeFrame_frameWord (c : Cmd) (arg : Word32) (crc : BitVec 7) :
    decodeFrame (frameWord c.index arg crc) = .ok (Instr.command c arg crc) := by
  obtain ⟨hstart, hidx, harg, hcrc, hstop⟩ := frameWord_fields c.index arg crc
  have hc : commandOfIndex c.index = some c := commandOfIndex_eq_some.mpr rfl
  simp [decodeFrame, hstart, hidx, harg, hcrc, hstop, hc]

theorem decode_encode_command (c : Cmd) (arg : Word32) (crc : BitVec 7) :
    decode (encode (Instr.command c arg crc)) = .ok (Instr.command c arg crc) := by
  rw [encode_command]
  exact decodeFrame_frameWord c arg crc

theorem decodeRequest_init (addr : Word32) : decodeRequest (requestWord 0b01#2 addr) = .ok (.init addr) := by
  simp [decodeRequest, requestWord_fields]

theorem decodeRequest_readBlock (addr : Word32) :
    decodeRequest (requestWord 0b10#2 addr) = .ok (.readBlock addr) := by
  simp [decodeRequest, requestWord_fields]

theorem decodeRequest_noRequest (addr : Word32) :
    decodeRequest (requestWord 0b00#2 addr) = .error .noRequest := by
  simp [decodeRequest, requestWord_fields]

theorem decodeRequest_reserved (addr : Word32) :
    decodeRequest (requestWord 0b11#2 addr) = .error .reservedRequest := by
  simp [decodeRequest, requestWord_fields]

/-- A frame word is its five fields side by side, so with the start and stop bits of rule R70 it is the frame of the
other three. -/
theorem frameWord_of_fields {w : BitVec 48} (hstart : w.extractLsb' 46 2 = 0b01#2) (hstop : w.extractLsb' 0 1 = 1#1) :
    frameWord (w.extractLsb' 40 6) (w.extractLsb' 8 32) (w.extractLsb' 1 7) = w := by
  rw [frameWord, ← hstart, ← hstop, BitVec.extractLsb'_append_extractLsb'_eq_extractLsb' (rfl : 46 = 40 + 6),
    BitVec.extractLsb'_append_extractLsb'_eq_extractLsb' (rfl : 40 = 8 + 32),
    BitVec.extractLsb'_append_extractLsb'_eq_extractLsb' (rfl : 8 = 1 + 7),
    BitVec.extractLsb'_append_extractLsb'_eq_extractLsb' (rfl : 1 = 0 + 1)]
  exact BitVec.extractLsb'_eq_self

theorem requestWord_of_fields (w : BitVec 34) : requestWord (w.extractLsb' 32 2) (w.extractLsb' 0 32) = w := by
  rw [requestWord, BitVec.extractLsb'_append_extractLsb'_eq_extractLsb' (rfl : 32 = 0 + 32)]
  exact BitVec.extractLsb'_eq_self

/-! ### The obligations -/

/-- Settles O1: the fields of a word made of them are read back, in each of the two formats. -/
theorem decodeEncodeRoundTrip : Obligations.DecodeEncodeRoundTrip := by
  intro i
  cases i with
  | cmd0 arg crc => exact decode_encode_command .cmd0 arg crc
  | cmd8 arg crc => exact decode_encode_command .cmd8 arg crc
  | cmd55 arg crc => exact decode_encode_command .cmd55 arg crc
  | acmd41 arg crc => exact decode_encode_command .acmd41 arg crc
  | cmd58 arg crc => exact decode_encode_command .cmd58 arg crc
  | cmd17 arg crc => exact decode_encode_command .cmd17 arg crc
  | init addr => exact decodeRequest_init addr
  | readBlock addr => exact decodeRequest_readBlock addr

theorem encode_of_decodeRequest {w : BitVec 34} {i : Instr} (h : decodeRequest w = .ok i) : encode i = .request w := by
  unfold decodeRequest at h
  split_ifs at h with hinit hread hnone
  all_goals cases h
  · rw [encode, ← hinit, requestWord_of_fields]
  · rw [encode, ← hread, requestWord_of_fields]

/-- Settles O2: a word that decodes has its format's fixed bits, and is then its fields side by side. -/
theorem encodeDecodeRoundTrip : Obligations.EncodeDecodeRoundTrip := by
  intro w i h
  cases w with
  | frame w =>
    obtain ⟨c, hstart, hstop, hidx, rfl⟩ := decodeFrame_ok h
    rw [encode_command, ← hidx, frameWord_of_fields hstart hstop]
  | request w => exact encode_of_decodeRequest h

/-- The wire bytes of a frame word: its five fields regrouped into six bytes (rules R70 and R123). -/
theorem wireBytes_frameWord (c : Cmd) (arg : Word32) (crc : BitVec 7) :
    wireBytes (frameWord c.index arg crc) = [Machine.frameByte c arg crc 0, Machine.frameByte c arg crc 1,
      Machine.frameByte c arg crc 2, Machine.frameByte c arg crc 3, Machine.frameByte c arg crc 4,
      Machine.frameByte c arg crc 5] := by
  have hfirst : (frameWord c.index arg crc).extractLsb' 40 8 = Machine.startByte c.index := by
    rw [Machine.startByte_eq_append, frameWord]
    ext i hi
    simp only [BitVec.getElem_extractLsb', BitVec.getLsbD_append]
    grind
  have hlast : (frameWord c.index arg crc).extractLsb' 0 8 = Machine.stopByte crc := by
    rw [Machine.stopByte_eq_append, frameWord]
    ext i hi
    simp only [BitVec.getElem_extractLsb', BitVec.getLsbD_append]
    grind
  have harg : ∀ k, k + 8 ≤ 32 → (frameWord c.index arg crc).extractLsb' (8 + k) 8 = arg.extractLsb' k 8 := by
    intro k hk
    obtain ⟨-, -, hfield, -, -⟩ := frameWord_fields c.index arg crc
    conv_rhs => rw [← hfield]
    ext i hi
    simp only [BitVec.getElem_extractLsb', BitVec.getLsbD_extractLsb']
    rw [decide_eq_true (by omega), Bool.true_and, Nat.add_assoc]
  rw [wireBytes, hfirst, hlast, harg 24 (by decide), harg 16 (by decide), harg 8 (by decide), harg 0 (by decide)]
  rfl

/-- Settles O3: the six bytes of the word in wire order are the rows of `frame(c, a)` (rule R123). -/
theorem wireBytesAreTheFrameBytes : Obligations.WireBytesAreTheFrameBytes := by
  intro c arg crc j
  rw [wireBytes_frameWord]
  fin_cases j <;> rfl

/-- An index is one of the six of rule R75 exactly if a command carries it. -/
theorem index_mem_iff (idx : BitVec 6) : idx.toNat ∈ [0, 8, 17, 41, 55, 58] ↔ ∃ c : Cmd, idx = c.index := by
  constructor
  · intro h
    have hof : ∀ {n : Nat}, idx.toNat = n → idx = BitVec.ofNat 6 n := by
      rintro n rfl
      rw [BitVec.ofNat_toNat, BitVec.setWidth_eq]
    simp only [List.mem_cons, List.not_mem_nil, or_false] at h
    obtain h | h | h | h | h | h := h
    · exact ⟨.cmd0, hof h⟩
    · exact ⟨.cmd8, hof h⟩
    · exact ⟨.cmd17, hof h⟩
    · exact ⟨.acmd41, hof h⟩
    · exact ⟨.cmd55, hof h⟩
    · exact ⟨.cmd58, hof h⟩
  · rintro ⟨c, rfl⟩
    cases c <;> decide

/-- The stop bit, as a field of the word and as a bit of it. -/
theorem extractLsb'_zero_one_eq_one_iff (w : BitVec 48) : w.extractLsb' 0 1 = 1#1 ↔ w.getLsbD 0 = true := by
  constructor
  · intro h
    simpa using congrArg (fun v => v.getLsbD 0) h
  · intro h
    ext i hi
    obtain rfl : i = 0 := by omega
    simpa using h

/-- Settles O7: with its fixed bits and an index of the engine, a word is the frame of its own fields. -/
theorem frameDecodesExactlyIfOfThisEngine : Obligations.FrameDecodesExactlyIfOfThisEngine := by
  intro w
  rw [index_mem_iff, ← extractLsb'_zero_one_eq_one_iff]
  constructor
  · rintro ⟨i, h⟩
    obtain ⟨c, hstart, hstop, hidx, -⟩ := decodeFrame_ok h
    exact ⟨hstart, hstop, c, hidx⟩
  · rintro ⟨hstart, hstop, c, hidx⟩
    refine ⟨Instr.command c (w.extractLsb' 8 32) (w.extractLsb' 1 7), ?_⟩
    rw [← frameWord_of_fields hstart hstop, hidx]
    exact (decodeFrame_frameWord c _ _).trans (by rw [← hidx, frameWord_of_fields hstart hstop])

/-- Settles O6: each row is evaluated; CMD17's argument bytes are those of the address itself. -/
theorem defaultFrames : Obligations.DefaultFrames := by
  refine ⟨by decide, by decide, by decide, by decide, by decide, fun a j => ?_⟩
  fin_cases j
  · exact (by decide : Machine.startByte Cmd.cmd17.index = 0x51#8)
  · rfl
  · rfl
  · rfl
  · rfl
  · exact (by decide : Machine.stopByte (Config.standard.templateCrc .cmd17) = 0x55#8)

/-- Settles O8: the four values of the request word's `op` field (rule R85). -/
theorem requestOpDecodes : Obligations.RequestOpDecodes := fun addr =>
  ⟨decodeRequest_init addr, decodeRequest_readBlock addr, decodeRequest_noRequest addr, decodeRequest_reserved addr⟩

/-- Settles O9: each word is the encoding of its instruction, and an encoding decodes to what it encodes. -/
theorem sampleWordsDecode : Obligations.SampleWordsDecode :=
  ⟨decodeEncodeRoundTrip (.cmd0 0x00000000#32 0x4A#7), decodeEncodeRoundTrip (.cmd8 0x000001AA#32 0x43#7),
    decodeEncodeRoundTrip (.cmd55 0x00000000#32 0x32#7), decodeEncodeRoundTrip (.acmd41 0x40000000#32 0x3B#7),
    decodeEncodeRoundTrip (.cmd58 0x00000000#32 0x7E#7), decodeEncodeRoundTrip (.cmd17 0x12345678#32 0x2A#7),
    decodeEncodeRoundTrip (.init 0#32), decodeEncodeRoundTrip (.readBlock 0x10#32)⟩

end Sys2Proof
end

section
/-! The transitions of the engine: everything its own event can do, one constructor per phase and outcome, and which of
them write each register. Every whole-machine statement below is read off this relation. -/

namespace Sys2Proof.Machine

/-- The phases whose event is a byte exchange (rules R21 and R101). -/
def Phase.exchanges : Phase → Bool
  | .iDummy _ | .iFlush _ | .sReady _ _ | .sFrame _ _ | .pR1 _ _ | .pR3 _ _ | .tToken _ | .bData _ | .bCrc _ => true
  | _ => false

/-- After a failure the session is Ready only where a READ_BLOCK failed in a Ready session (rules R182 and R216). -/
theorem State.raiseFail_sess_ready {s : State} {op : Operation} {k : ErrorKind} (h : (s.raiseFail op k).sess = .ready) :
    op = .readBlock ∧ s.sess = .ready := by
  cases op with
  | readBlock => exact ⟨rfl, h⟩
  | init => rw [State.raiseFail_init_sess] at h; split_ifs at h

/-- The transitions of the engine (rules R21 and R22): from `s` in a phase, with `arg` and `crc` the operands of the
frame being sent, to the state after the phase's event and the computation that follows it. -/
inductive Transition (arg : Word32) (crc : BitVec 7) (s : State) : State → Prop
  | idle (hpc : s.pc = .idle) : Transition arg crc s s
  | cardPresent (hpc : s.pc = .iDetect) (hb : s.present = true) :
    Transition arg crc s ((s.afterDetect true).goto .iGpio)
  | cardAbsent (hpc : s.pc = .iDetect) (hb : s.present = false) :
    Transition arg crc s ((s.afterDetect false).raiseFail .init .cardAbsent)
  | gpio (hpc : s.pc = .iGpio) : Transition arg crc s ((s.record .gpioConfigure).goto .iSlow)
  | slow (hpc : s.pc = .iSlow) : Transition arg crc s (s.setSlow.goto .iCsHigh)
  | csHigh (hpc : s.pc = .iCsHigh) : Transition arg crc s ((s.csDrive .high).goto (.iDummy 0))
  | dummyNext {j : Nat} {rx : Byte} (hpc : s.pc = .iDummy j) (hrx : s.rx? = some rx) (hj : j + 1 < s.cfg.nDummyBytes) :
    Transition arg crc s ((s.afterXfer filler rx).goto (.iDummy (j + 1)))
  | dummyLast {j : Nat} {rx : Byte} (hpc : s.pc = .iDummy j) (hrx : s.rx? = some rx) (hj : ¬ j + 1 < s.cfg.nDummyBytes) :
    Transition arg crc s ((s.afterXfer filler rx).goto .iDelay)
  | delay (hpc : s.pc = .iDelay) : Transition arg crc s ((s.record (.delayMs s.cfg.tStabMs)).goto .iCsLow)
  | csLow (hpc : s.pc = .iCsLow) : Transition arg crc s { (s.csDrive .low).goto (.iFlush 0) with sess := .poweredOn }
  | flushNext {j : Fin 3} {rx : Byte} (hpc : s.pc = .iFlush j) (hrx : s.rx? = some rx) (hj : j.val + 1 < 3) :
    Transition arg crc s ((s.afterXfer filler rx).goto (.iFlush ⟨j.val + 1, hj⟩))
  | flushLast {j : Fin 3} {rx : Byte} (hpc : s.pc = .iFlush j) (hrx : s.rx? = some rx) (hj : ¬ j.val + 1 < 3) :
    Transition arg crc s ((s.afterXfer filler rx).sendTemplate .cmd0)
  | ready {c : Cmd} {n : Nat} {rx : Byte} (hpc : s.pc = .sReady c n) (hrx : s.rx? = some rx) (hv : rx = 0xFF#8) :
    Transition arg crc s ((s.afterXfer filler rx).goto (.sFrame c 0))
  | readyTimeout {c : Cmd} {n : Nat} {rx : Byte} (hpc : s.pc = .sReady c n) (hrx : s.rx? = some rx) (hv : rx ≠ 0xFF#8)
    (hlim : limitReached s.cfg.readyLimit (n + 1) = true) :
    Transition arg crc s ((s.afterXfer filler rx).raiseFail (operationOf c) .responseTimeout)
  | readyNext {c : Cmd} {n : Nat} {rx : Byte} (hpc : s.pc = .sReady c n) (hrx : s.rx? = some rx) (hv : rx ≠ 0xFF#8)
    (hlim : limitReached s.cfg.readyLimit (n + 1) = false) :
    Transition arg crc s ((s.afterXfer filler rx).goto (.sReady c (n + 1)))
  | frameNext {c : Cmd} {j : Fin 6} {rx : Byte} (hpc : s.pc = .sFrame c j) (hrx : s.rx? = some rx) (hj : j.val + 1 < 6) :
    Transition arg crc s ((s.afterXfer (frameByte c arg crc j) rx).goto (.sFrame c ⟨j.val + 1, hj⟩))
  | frameLast {c : Cmd} {j : Fin 6} {rx : Byte} (hpc : s.pc = .sFrame c j) (hrx : s.rx? = some rx)
    (hj : ¬ j.val + 1 < 6) :
    Transition arg crc s ((s.afterXfer (frameByte c arg crc j) rx).goto (.pR1 c 0))
  | pollNext {c : Cmd} {k : Fin 8} {rx : Byte} (hpc : s.pc = .pR1 c k) (hrx : s.rx? = some rx)
    (hv : ¬ validR1 rx = true) (hk : k.val + 1 < 8) :
    Transition arg crc s ((s.afterXfer filler rx).goto (.pR1 c ⟨k.val + 1, hk⟩))
  | r3Begins {c : Cmd} {k : Fin 8} {rx : Byte} (hpc : s.pc = .pR1 c k) (hrx : s.rx? = some rx)
    (hc : c = .cmd8 ∨ c = .cmd58) :
    Transition arg crc s { (s.afterXfer filler rx).setR1 rx with r3 := s.r3.set 0 rx, pc := .pR3 c 1 }
  | resetPasses {k : Fin 8} {rx : Byte} (hpc : s.pc = .pR1 .cmd0 k) (hrx : s.rx? = some rx) (hv : rx = 0x01#8) :
    Transition arg crc s ({ (s.afterXfer filler rx).setR1 rx with sess := .reset }.sendTemplate .cmd8)
  | resetFails {k : Fin 8} {rx : Byte} (hpc : s.pc = .pR1 .cmd0 k) (hrx : s.rx? = some rx) (hv : rx ≠ 0x01#8) :
    Transition arg crc s (((s.afterXfer filler rx).setR1 rx).raiseFail .init .resetFailed)
  | appCmd {k : Fin 8} {rx : Byte} (hpc : s.pc = .pR1 .cmd55 k) (hrx : s.rx? = some rx) :
    Transition arg crc s (((s.afterXfer filler rx).setR1 rx).sendTemplate .acmd41)
  | loopExits {k : Fin 8} {rx : Byte} (hpc : s.pc = .pR1 .acmd41 k) (hrx : s.rx? = some rx) (hv : idleFlag rx = false) :
    Transition arg crc s
      ({ (s.afterXfer filler rx).setR1 rx with it := s.it + 1, sess := .initialized }.sendTemplate .cmd58)
  | loopTimeout {k : Fin 8} {rx : Byte} (hpc : s.pc = .pR1 .acmd41 k) (hrx : s.rx? = some rx)
    (hv : ¬ idleFlag rx = false) (hlim : limitReached s.cfg.acmd41Limit (s.it + 1) = true) :
    Transition arg crc s
      ({ (s.afterXfer filler rx).setR1 rx with it := s.it + 1 }.raiseFail .init .responseTimeout)
  | loopNext {k : Fin 8} {rx : Byte} (hpc : s.pc = .pR1 .acmd41 k) (hrx : s.rx? = some rx)
    (hv : ¬ idleFlag rx = false) (hlim : limitReached s.cfg.acmd41Limit (s.it + 1) = false) :
    Transition arg crc s ({ (s.afterXfer filler rx).setR1 rx with it := s.it + 1 }.sendTemplate .cmd55)
  | readPasses {k : Fin 8} {rx : Byte} (hpc : s.pc = .pR1 .cmd17 k) (hrx : s.rx? = some rx) (hv : rx = 0x00#8) :
    Transition arg crc s (((s.afterXfer filler rx).setR1 rx).goto (.tToken 0))
  | readFails {k : Fin 8} {rx : Byte} (hpc : s.pc = .pR1 .cmd17 k) (hrx : s.rx? = some rx) (hv : rx ≠ 0x00#8) :
    Transition arg crc s (((s.afterXfer filler rx).setR1 rx).raiseFail .readBlock .readFailed)
  | ocrNext {c : Cmd} {i : Fin 5} {rx : Byte} (hpc : s.pc = .pR3 c i) (hrx : s.rx? = some rx) (hi : i.val + 1 < 5) :
    Transition arg crc s { s.afterXfer filler rx with r3 := s.r3.set i rx, pc := .pR3 c ⟨i.val + 1, hi⟩ }
  | verifyPasses {i : Fin 5} {rx : Byte} (hpc : s.pc = .pR3 .cmd8 i) (hrx : s.rx? = some rx) (hi : ¬ i.val + 1 < 5) :
    Transition arg crc s (enterLoop { s.afterXfer filler rx with r3 := s.r3.set i rx, sess := .verified })
  | verifyFails {i : Fin 5} {rx : Byte} (hpc : s.pc = .pR3 .cmd8 i) (hrx : s.rx? = some rx) (hi : ¬ i.val + 1 < 5) :
    Transition arg crc s ({ s.afterXfer filler rx with r3 := s.r3.set i rx }.raiseFail .init .verificationFailed)
  | capacityPasses {c : Cmd} {i : Fin 5} {rx : Byte} (hpc : s.pc = .pR3 c i) (hrx : s.rx? = some rx) (hc : c ≠ .cmd8)
    (hi : ¬ i.val + 1 < 5) :
    Transition arg crc s ({ s.afterXfer filler rx with r3 := s.r3.set i rx }.goto .iFast)
  | capacityFails {c : Cmd} {i : Fin 5} {rx : Byte} (hpc : s.pc = .pR3 c i) (hrx : s.rx? = some rx) (hc : c ≠ .cmd8)
    (hi : ¬ i.val + 1 < 5) :
    Transition arg crc s ({ s.afterXfer filler rx with r3 := s.r3.set i rx }.raiseFail .init .capacityCheckFailed)
  | token {n : Nat} {rx : Byte} (hpc : s.pc = .tToken n) (hrx : s.rx? = some rx) (hv : rx = dataToken) :
    Transition arg crc s ((s.afterXfer filler rx).goto (.bData 0))
  | tokenTimeout {n : Nat} {rx : Byte} (hpc : s.pc = .tToken n) (hrx : s.rx? = some rx) (hv : rx ≠ dataToken)
    (hlim : limitReached s.cfg.tokenLimit (n + 1) = true) :
    Transition arg crc s ((s.afterXfer filler rx).raiseFail .readBlock .readFailed)
  | tokenNext {n : Nat} {rx : Byte} (hpc : s.pc = .tToken n) (hrx : s.rx? = some rx) (hv : rx ≠ dataToken)
    (hlim : limitReached s.cfg.tokenLimit (n + 1) = false) :
    Transition arg crc s ((s.afterXfer filler rx).goto (.tToken (n + 1)))
  | dataReceived {i : Fin 512} {rx : Byte} (hpc : s.pc = .bData i) (hrx : s.rx? = some rx) :
    Transition arg crc s ((s.afterXfer filler rx).goto (.bWrite i rx))
  | dataStored {i : Fin 512} {v : Byte} (hpc : s.pc = .bWrite i v) (hi : i.val + 1 < 512) :
    Transition arg crc s ((s.memWrite i v).goto (.bData ⟨i.val + 1, hi⟩))
  | lastDataStored {i : Fin 512} {v : Byte} (hpc : s.pc = .bWrite i v) (hi : ¬ i.val + 1 < 512) :
    Transition arg crc s ((s.memWrite i v).goto (.bCrc 0))
  | crcNext {j : Fin 2} {rx : Byte} (hpc : s.pc = .bCrc j) (hrx : s.rx? = some rx) (hj : j.val + 1 < 2) :
    Transition arg crc s ((s.afterXfer filler rx).goto (.bCrc ⟨j.val + 1, hj⟩))
  | crcLast {j : Fin 2} {rx : Byte} (hpc : s.pc = .bCrc j) (hrx : s.rx? = some rx) (hj : ¬ j.val + 1 < 2) :
    Transition arg crc s (s.afterXfer filler rx).succeed
  | fast (hpc : s.pc = .iFast) : Transition arg crc s (s.setFast.goto .iHandoff)
  | handoff (hpc : s.pc = .iHandoff) : Transition arg crc s { s.csHandoff.succeed with sess := .ready }
  | done {res : Result} (hpc : s.pc = .done res) : Transition arg crc s (s.complete res)

section
variable {arg : Word32} {crc : BitVec 7} {s t : State}

/-! ### The phases' events are transitions -/

theorem detectCard_next (hpc : s.pc = .iDetect) (h : detectCard s = .next t) : Transition arg crc s t := by
  unfold detectCard at h
  cases hb : s.present <;> simp only [hb, if_true, Bool.false_eq_true, if_false] at h <;> cases h
  · exact .cardAbsent hpc hb
  · exact .cardPresent hpc hb

theorem dummyByte_next {j : Nat} (hpc : s.pc = .iDummy j) (h : dummyByte j s = .next t) : Transition arg crc s t := by
  obtain ⟨rx, hrx, h⟩ := xfer_next h
  cases h
  split_ifs with hj
  · exact .dummyNext hpc hrx hj
  · exact .dummyLast hpc hrx hj

theorem flushByte_next {j : Fin 3} (hpc : s.pc = .iFlush j) (h : flushByte j s = .next t) : Transition arg crc s t := by
  obtain ⟨rx, hrx, h⟩ := xfer_next h
  cases h
  split_ifs with hj
  · exact .flushNext hpc hrx hj
  · exact .flushLast hpc hrx hj

theorem readyWait_next {c : Cmd} {n : Nat} (hpc : s.pc = .sReady c n) (h : readyWait c n s = .next t) :
    Transition arg crc s t := by
  obtain ⟨rx, hrx, h⟩ := xfer_next h
  cases h
  split_ifs with hv hlim
  · exact .ready hpc hrx hv
  · exact .readyTimeout hpc hrx hv hlim
  · exact .readyNext hpc hrx hv (Bool.eq_false_iff.mpr hlim)

theorem sendFrameByte_next {c : Cmd} {j : Fin 6} (hpc : s.pc = .sFrame c j) (h : sendFrameByte c arg crc j s = .next t) :
    Transition arg crc s t := by
  obtain ⟨rx, hrx, h⟩ := xfer_next h
  cases h
  split_ifs with hj
  · exact .frameNext hpc hrx hj
  · exact .frameLast hpc hrx hj

/-- The end of an R1 poll, by the command it belongs to (rule R151). -/
theorem endR1_transition {c : Cmd} {k : Fin 8} {rx : Byte} (hpc : s.pc = .pR1 c k) (hrx : s.rx? = some rx) :
    Transition arg crc s (endR1 c rx (s.afterXfer filler rx)) := by
  cases c with
  | cmd8 => exact .r3Begins hpc hrx (.inl rfl)
  | cmd58 => exact .r3Begins hpc hrx (.inr rfl)
  | cmd55 => exact .appCmd hpc hrx
  | cmd0 =>
    unfold endR1 checkReset
    split_ifs with hv
    · exact .resetPasses hpc hrx hv
    · exact .resetFails hpc hrx hv
  | acmd41 =>
    unfold endR1 acmd41RoundEnd
    split_ifs with hv hlim
    · exact .loopExits hpc hrx hv
    · exact .loopTimeout hpc hrx hv hlim
    · exact .loopNext hpc hrx hv (Bool.eq_false_iff.mpr hlim)
  | cmd17 =>
    unfold endR1 checkReadR1
    split_ifs with hv
    · exact .readPasses hpc hrx hv
    · exact .readFails hpc hrx hv

theorem pollR1_next {c : Cmd} {k : Fin 8} (hpc : s.pc = .pR1 c k) (h : pollR1 c k s = .next t) :
    Transition arg crc s t := by
  obtain ⟨rx, hrx, h⟩ := xfer_next h
  cases h
  split_ifs with hv hk
  · exact endR1_transition hpc hrx
  · exact .pollNext hpc hrx hv hk
  · exact endR1_transition hpc hrx

/-- A check that goes on has found the bytes it reads: CMD8's passes into the loop or fails. -/
theorem checkVerify_next (h : checkVerify s = .next t) :
    t = enterLoop { s with sess := .verified } ∨ t = s.raiseFail .init .verificationFailed := by
  unfold checkVerify at h
  split at h
  · cases h
  · cases h
    split_ifs
    · exact .inl rfl
    · exact .inr rfl

/-- A check that goes on has found the bytes it reads: CMD58's passes to `I_Fast` or fails. -/
theorem checkOcr_next (h : checkOcr s = .next t) :
    t = s.goto .iFast ∨ t = s.raiseFail .init .capacityCheckFailed := by
  unfold checkOcr at h
  split at h
  · cases h
    split_ifs
    · exact .inl rfl
    · exact .inr rfl
  · cases h

theorem readOcr_next {c : Cmd} {i : Fin 5} (hpc : s.pc = .pR3 c i) (h : readOcr c i s = .next t) :
    Transition arg crc s t := by
  obtain ⟨rx, hrx, hrest⟩ := xfer_next h
  split_ifs at hrest with hi hc
  · cases hrest
    exact .ocrNext hpc hrx hi
  · subst hc
    obtain rfl | rfl := checkVerify_next hrest
    · exact .verifyPasses hpc hrx hi
    · exact .verifyFails hpc hrx hi
  · obtain rfl | rfl := checkOcr_next hrest
    · exact .capacityPasses hpc hrx hc hi
    · exact .capacityFails hpc hrx hc hi

theorem tokenWait_next {n : Nat} (hpc : s.pc = .tToken n) (h : tokenWait n s = .next t) : Transition arg crc s t := by
  obtain ⟨rx, hrx, h⟩ := xfer_next h
  cases h
  split_ifs with hv hlim
  · exact .token hpc hrx hv
  · exact .tokenTimeout hpc hrx hv hlim
  · exact .tokenNext hpc hrx hv (Bool.eq_false_iff.mpr hlim)

theorem dataByte_next {i : Fin 512} (hpc : s.pc = .bData i) (h : dataByte i s = .next t) : Transition arg crc s t := by
  obtain ⟨rx, hrx, h⟩ := xfer_next h
  cases h
  exact .dataReceived hpc hrx

theorem storeByte_next {i : Fin 512} {v : Byte} (hpc : s.pc = .bWrite i v) (h : storeByte i v s = .next t) :
    Transition arg crc s t := by
  unfold storeByte at h
  cases h
  split_ifs with hi
  · exact .dataStored hpc hi
  · exact .lastDataStored hpc hi

theorem crcByte_next {j : Fin 2} (hpc : s.pc = .bCrc j) (h : crcByte j s = .next t) : Transition arg crc s t := by
  obtain ⟨rx, hrx, h⟩ := xfer_next h
  cases h
  split_ifs with hj
  · exact .crcNext hpc hrx hj
  · exact .crcLast hpc hrx hj

/-- Whatever the phase, its event is a transition. -/
theorem phaseEvent_next (h : phaseEvent arg crc s = .next t) : Transition arg crc s t := by
  cases hpc : s.pc with
  | idle => rw [phaseEvent_idle _ _ hpc] at h; cases h; exact .idle hpc
  | iDetect => rw [phaseEvent_iDetect _ _ hpc] at h; exact detectCard_next hpc h
  | iGpio => rw [phaseEvent_iGpio _ _ hpc] at h; cases h; exact .gpio hpc
  | iSlow => rw [phaseEvent_iSlow _ _ hpc] at h; cases h; exact .slow hpc
  | iCsHigh => rw [phaseEvent_iCsHigh _ _ hpc] at h; cases h; exact .csHigh hpc
  | iDummy j => rw [phaseEvent_iDummy _ _ hpc] at h; exact dummyByte_next hpc h
  | iDelay => rw [phaseEvent_iDelay _ _ hpc] at h; cases h; exact .delay hpc
  | iCsLow => rw [phaseEvent_iCsLow _ _ hpc] at h; cases h; exact .csLow hpc
  | iFlush j => rw [phaseEvent_iFlush _ _ hpc] at h; exact flushByte_next hpc h
  | sReady c n => rw [phaseEvent_sReady _ _ hpc] at h; exact readyWait_next hpc h
  | sFrame c j => rw [phaseEvent_sFrame _ _ hpc] at h; exact sendFrameByte_next hpc h
  | pR1 c k => rw [phaseEvent_pR1 _ _ hpc] at h; exact pollR1_next hpc h
  | pR3 c i => rw [phaseEvent_pR3 _ _ hpc] at h; exact readOcr_next hpc h
  | tToken n => rw [phaseEvent_tToken _ _ hpc] at h; exact tokenWait_next hpc h
  | bData i => rw [phaseEvent_bData _ _ hpc] at h; exact dataByte_next hpc h
  | bWrite i v => rw [phaseEvent_bWrite _ _ hpc] at h; exact storeByte_next hpc h
  | bCrc j => rw [phaseEvent_bCrc _ _ hpc] at h; exact crcByte_next hpc h
  | iFast => rw [phaseEvent_iFast _ _ hpc] at h; cases h; exact .fast hpc
  | iHandoff => rw [phaseEvent_iHandoff _ _ hpc] at h; cases h; exact .handoff hpc
  | done res => rw [phaseEvent_done _ _ hpc] at h; cases h; exact .done hpc

theorem engineEvent_next (h : engineEvent s = .next t) : Transition s.cmdArg s.frameCrc s t := phaseEvent_next h

/-! ### What each register's writers are -/

namespace Transition

theorem cfg_eq (h : Transition arg crc s t) : t.cfg = s.cfg := by cases h <;> rfl

theorem port_eq (h : Transition arg crc s t) : t.port = s.port := by cases h <;> rfl

/-- Only the write half of `B_Data(i)` writes memory, its one cell (rule R213). -/
theorem mem_cases (h : Transition arg crc s t) :
    t.mem = s.mem ∨ ∃ i v, s.pc = .bWrite i v ∧ t.mem = s.mem.write (s.cfg.buf + i.val) v := by
  cases h with
  | dataStored hw | lastDataStored hw => exact .inr ⟨_, _, hw, rfl⟩
  | _ => exact .inl rfl

theorem detect_eq (h : Transition arg crc s t) (hpc : s.pc ≠ .iDetect) : t.detect = s.detect := by
  cases h with
  | cardPresent hw | cardAbsent hw => exact absurd hw hpc
  | _ => rfl

theorem profile_eq (h : Transition arg crc s t) (hslow : s.pc ≠ .iSlow) (hfast : s.pc ≠ .iFast) :
    t.profile = s.profile := by
  cases h with
  | slow hw => exact absurd hw hslow
  | fast hw => exact absurd hw hfast
  | _ => rfl

theorem cs_eq (h : Transition arg crc s t) (hhigh : s.pc ≠ .iCsHigh) (hlow : s.pc ≠ .iCsLow)
    (hoff : s.pc ≠ .iHandoff) : t.csMode = s.csMode ∧ t.csLevel = s.csLevel := by
  cases h with
  | csHigh hw => exact absurd hw hhigh
  | csLow hw => exact absurd hw hlow
  | handoff hw => exact absurd hw hoff
  | _ => exact ⟨rfl, rfl⟩

/-- Only the R1 poll writes `r1` and `r1_valid`, and the two together (rules R26, R27 and R151). -/
theorem r1_cases (h : Transition arg crc s t) :
    (t.r1 = s.r1 ∧ t.r1Valid = s.r1Valid)
      ∨ (∃ c k, s.pc = .pR1 c k) ∧ ∃ v, t.r1 = some v ∧ t.r1Valid = some (validR1 v) := by
  cases h with
  | r3Begins hw | resetPasses hw | resetFails hw | appCmd hw | loopExits hw | loopTimeout hw | loopNext hw
  | readPasses hw | readFails hw => exact .inr ⟨⟨_, _, hw⟩, _, rfl, rfl⟩
  | _ => exact .inl ⟨rfl, rfl⟩

theorem r1_eq (h : Transition arg crc s t) (hpc : ∀ c k, s.pc ≠ .pR1 c k) : t.r1 = s.r1 ∧ t.r1Valid = s.r1Valid := by
  obtain hsame | ⟨⟨c, k, hw⟩, -⟩ := h.r1_cases
  · exact hsame
  · exact absurd hw (hpc c k)

theorem r3_eq (h : Transition arg crc s t) (hpoll : ∀ c k, c = .cmd8 ∨ c = .cmd58 → s.pc ≠ .pR1 c k)
    (hread : ∀ c i, s.pc ≠ .pR3 c i) : t.r3 = s.r3 := by
  cases h with
  | r3Begins hw _ hc => exact absurd hw (hpoll _ _ hc)
  | ocrNext hw | verifyPasses hw | verifyFails hw | capacityPasses hw | capacityFails hw => exact absurd hw (hread _ _)
  | _ => rfl

theorem it_eq (h : Transition arg crc s t) (hpoll : ∀ k, s.pc ≠ .pR1 .acmd41 k) (hread : ∀ i, s.pc ≠ .pR3 .cmd8 i) :
    t.it = s.it := by
  cases h with
  | loopExits hw | loopTimeout hw | loopNext hw => exact absurd hw (hpoll _)
  | verifyPasses hw => exact absurd hw (hread _)
  | _ => rfl

/-- Only INIT writes `cmd_arg` once it is running, with each command it sends (rule R120). -/
theorem cmdArg_cases (h : Transition arg crc s t) :
    t.cmdArg = s.cmdArg ∨ s.pc.operation? = some .init ∧ ∃ c, t.pc = .sReady c 0 := by
  cases h with
  | flushLast hw | resetPasses hw | appCmd hw | loopExits hw | loopNext hw | verifyPasses hw =>
    exact .inr ⟨by rw [hw]; rfl, _, rfl⟩
  | _ => exact .inl rfl

/-- `err` is written as an operation ends: cleared by the hand-off and the last block CRC byte, or with an error kind,
never InitializationFailed (rules R181, R214 and R231). -/
theorem err_cases (h : Transition arg crc s t) :
    t.err = s.err ∨ (t.pc = .done .ok ∧ t.err = none ∧ (s.pc = .iHandoff ∨ ∃ j, s.pc = .bCrc j))
      ∨ ∃ k, t.pc = .done (.fail k) ∧ t.err = some k ∧ k ≠ .initializationFailed := by
  cases h with
  | handoff hw => exact .inr (.inl ⟨rfl, rfl, .inl hw⟩)
  | crcLast hw => exact .inr (.inl ⟨rfl, rfl, .inr ⟨_, hw⟩⟩)
  | cardAbsent | readyTimeout | resetFails | loopTimeout | readFails | verifyFails | capacityFails | tokenTimeout =>
    exact .inr (.inr ⟨_, rfl, rfl, by decide⟩)
  | _ => exact .inl rfl

/-- Unless INIT fails, the session is written only in these phases (rules R172 to R177 and R181). -/
theorem sess_eq (h : Transition arg crc s t) (hlow : s.pc ≠ .iCsLow) (hoff : s.pc ≠ .iHandoff)
    (hpoll : ∀ c k, c = .cmd0 ∨ c = .acmd41 → s.pc ≠ .pR1 c k) (hread : ∀ i, s.pc ≠ .pR3 .cmd8 i)
    (hfail : ∀ k, t.pc ≠ .done (.fail k)) : t.sess = s.sess := by
  cases h with
  | csLow hw => exact absurd hw hlow
  | handoff hw => exact absurd hw hoff
  | resetPasses hw => exact absurd hw (hpoll _ _ (.inl rfl))
  | loopExits hw => exact absurd hw (hpoll _ _ (.inr rfl))
  | verifyPasses hw => exact absurd hw (hread _)
  | cardAbsent | readyTimeout | resetFails | loopTimeout | verifyFails | capacityFails => exact absurd rfl (hfail _)
  | _ => rfl

/-- Outside INIT the session is never written: a READ_BLOCK fails without writing it (rule R216). -/
theorem readBlock_sess_eq (h : Transition arg crc s t) (hop : s.pc.operation? ≠ some .init)
    (hread : ∀ i, s.pc ≠ .pR3 .cmd17 i) : t.sess = s.sess := by
  cases h with
  | csLow hw | handoff hw | resetPasses hw | loopExits hw | verifyPasses hw | cardAbsent hw | resetFails hw
  | loopTimeout hw | verifyFails hw => exact absurd (by rw [hw]; rfl) hop
  | @readyTimeout c _ _ hw =>
    have hc : operationOf c = .readBlock := by
      rw [hw] at hop
      cases c
      case cmd17 => rfl
      all_goals exact absurd rfl hop
    rw [hc]
    rfl
  | @capacityFails c _ _ hw =>
    rw [hw] at hop hread
    cases c
    case cmd17 => exact absurd rfl (hread _)
    all_goals exact absurd rfl hop
  | _ => rfl

/-- The session becomes Ready only by the hand-off (rule R181). -/
theorem sess_ready (h : Transition arg crc s t) (ht : t.sess = .ready) : s.sess = .ready ∨ s.pc = .iHandoff := by
  cases h with
  | handoff hw => exact .inr hw
  | csLow | resetPasses | loopExits | verifyPasses => cases ht
  | cardAbsent | readyTimeout | resetFails | loopTimeout | verifyFails | capacityFails =>
    exact .inl (State.raiseFail_sess_ready ht).2
  | _ => exact .inl ht

/-- A failing operation is in none of the phases from the token on (rule R215). -/
theorem not_data_of_fail (h : Transition arg crc s t) {k : ErrorKind} (ht : t.pc = .done (.fail k)) :
    (∀ i, s.pc ≠ .bData i) ∧ (∀ i v, s.pc ≠ .bWrite i v) ∧ ∀ j, s.pc ≠ .bCrc j := by
  cases h with
  | idle hw => exact absurd (hw.symm.trans ht) (by simp)
  | cardAbsent hw | readyTimeout hw | resetFails hw | loopTimeout hw | readFails hw | verifyFails hw
  | capacityFails hw | tokenTimeout hw => simp [hw]
  | _ => cases ht

/-- What a transition records: nothing in `Idle`; in a phase that exchanges, the exchange with the bus as it is, a
filler except in a frame; else one event that is no exchange (rules R102 and R112). -/
theorem history_cases (h : Transition arg crc s t) :
    t.history = s.history
      ∨ (∃ tx rx, t.history = .xfer tx rx s.profile s.csMode s.csLevel :: s.history ∧ s.pc.exchanges = true
          ∧ (tx = filler ∨ ∃ c j, s.pc = .sFrame c j))
      ∨ ∃ e, t.history = e :: s.history ∧ ∀ tx rx p m l, e ≠ .xfer tx rx p m l := by
  cases h with
  | idle => exact .inl rfl
  | cardPresent | cardAbsent | gpio | slow | csHigh | delay | csLow | dataStored | lastDataStored | fast | handoff
  | done => exact .inr (.inr ⟨_, rfl, by simp⟩)
  | frameNext hw | frameLast hw =>
    exact .inr (.inl ⟨_, _, rfl, by rw [hw]; rfl, .inr ⟨_, _, hw⟩⟩)
  | dummyNext hw | dummyLast hw | flushNext hw | flushLast hw | ready hw | readyTimeout hw | readyNext hw | pollNext hw
  | r3Begins hw | resetPasses hw | resetFails hw | appCmd hw | loopExits hw | loopTimeout hw | loopNext hw
  | readPasses hw | readFails hw | ocrNext hw | verifyPasses hw | verifyFails hw | capacityPasses hw | capacityFails hw
  | token hw | tokenTimeout hw | tokenNext hw | dataReceived hw | crcNext hw | crcLast hw =>
    exact .inr (.inl ⟨_, _, rfl, by rw [hw]; rfl, .inl rfl⟩)

end Transition

end

end Sys2Proof.Machine
end

section
/-! The invariant and the bus discipline (43_init_sequencer.md section 10, 44_block_reader.md section 2): every
transition of the engine keeps them, and so does every step. -/

namespace Sys2Proof.Machine

variable {arg : Word32} {crc : BitVec 7} {s t : State}

/-! ### The parts of the invariant -/

/-- What rule R7 says of the counts and limits of a well-formed configuration. -/
theorem limits_of_wellFormed {cfg : Config} (h : cfg.wellFormed = true) :
    10 ≤ cfg.nDummyBytes ∧ limitOk cfg.readyLimit = true ∧ limitOk cfg.acmd41Limit = true
      ∧ limitOk cfg.tokenLimit = true := by
  simp only [Config.wellFormed, Bool.and_eq_true, decide_eq_true_eq] at h
  obtain ⟨⟨⟨⟨⟨hdummy, hready⟩, hloop⟩, htoken⟩, -⟩, -⟩ := h
  exact ⟨hdummy, hready, hloop, htoken⟩

theorem commandOk_bus {c : Cmd} (h : commandOk c s) :
    (operationOf c = .init ∧ busSlowLow s) ∨ (operationOf c = .readBlock ∧ busFast s) := by
  obtain ⟨-, hbus, -, -⟩ := h
  cases c
  case cmd17 => exact .inr ⟨rfl, hbus⟩
  all_goals exact .inl ⟨rfl, hbus⟩

/-- The phase's part of the invariant, at the phase the state is known to be in. -/
theorem State.Inv.phase_at {p : Phase} (h : s.Inv) (hpc : s.pc = p) : phaseOk (s.goto p) := by
  rw [← hpc]
  exact h.phase

/-- The invariant says nothing of the port. -/
theorem State.Inv.with_port (h : s.Inv) (p : List HostMove) : State.Inv { s with port := p } :=
  ⟨h.cfgOk, h.memOk, h.r1Ok, h.errOk, h.phase⟩

/-! ### The phases shared operations enter -/

theorem phaseOk_raiseFail {op : Operation} (k : ErrorKind) (h : op = .readBlock → readyBus s) :
    phaseOk (s.raiseFail op k) := by
  refine ⟨rfl, fun hready => ?_⟩
  obtain ⟨hop, hs⟩ := State.raiseFail_sess_ready hready
  exact h hop hs

/-- A command of INIT begins in its stage, with the bus slow and chip-select low (rules R120, R187 and R188). -/
theorem phaseOk_sendTemplate {c : Cmd} (hcfg : s.cfg.wellFormed = true) (hc : c ≠ .cmd17) (hsess : s.sess = stageOf c)
    (hbus : busSlowLow s) (hloop : c = .cmd55 ∨ c = .acmd41 → belowLimit s.cfg.acmd41Limit s.it) :
    phaseOk (s.sendTemplate c) := by
  obtain ⟨-, hready, -, -⟩ := limits_of_wellFormed hcfg
  refine ⟨⟨hsess, ?_, .inr rfl, hloop⟩, limitReached_zero hready⟩
  rw [if_neg hc]
  exact hbus

/-- CMD17 begins in a Ready session with the bus fast (rules R210 and R218). -/
theorem phaseOk_send_cmd17 (hcfg : s.cfg.wellFormed = true) (hsess : s.sess = .ready) (hbus : busFast s) (a : Word32) :
    phaseOk (s.send .cmd17 a) := by
  obtain ⟨-, hready, -, -⟩ := limits_of_wellFormed hcfg
  refine ⟨⟨hsess, hbus, .inl rfl, ?_⟩, limitReached_zero hready⟩
  rintro (h | h) <;> cases h

/-! ### Every transition keeps the invariant -/

theorem Transition.keeps_phase (h : Transition arg crc s t) (hinv : s.Inv) : phaseOk t := by
  obtain ⟨hdummy, -, hloopLimit, htokenLimit⟩ := limits_of_wellFormed hinv.cfgOk
  cases h with
  | idle => exact hinv.phase
  | cardPresent | gpio => trivial
  | cardAbsent | resetFails | loopTimeout | verifyFails | capacityFails => exact phaseOk_raiseFail _ (by simp)
  | slow => rfl
  | csHigh hw => exact ⟨Nat.lt_of_lt_of_le (by decide) hdummy, hinv.phase_at hw, rfl, rfl⟩
  | dummyNext hw _ hj =>
    obtain ⟨-, hbus⟩ := hinv.phase_at hw
    exact ⟨hj, hbus⟩
  | dummyLast hw =>
    obtain ⟨-, hbus⟩ := hinv.phase_at hw
    exact hbus
  | delay hw => exact hinv.phase_at hw
  | csLow hw =>
    obtain ⟨hslow, -, -⟩ := hinv.phase_at hw
    exact ⟨rfl, hslow, rfl, rfl⟩
  | flushNext hw => exact hinv.phase_at hw
  | flushLast hw =>
    obtain ⟨hsess, hbus⟩ := hinv.phase_at hw
    exact phaseOk_sendTemplate hinv.cfgOk (by simp) hsess hbus (by simp)
  | ready hw =>
    obtain ⟨hcmd, -⟩ := hinv.phase_at hw
    exact hcmd
  | readyTimeout hw =>
    obtain ⟨hcmd, -⟩ := hinv.phase_at hw
    refine phaseOk_raiseFail _ fun hop _ => ?_
    obtain ⟨hinit, -⟩ | ⟨-, hfast⟩ := commandOk_bus hcmd
    · exact absurd (hinit.symm.trans hop) (by simp)
    · exact hfast
  | readyNext hw _ _ hlim =>
    obtain ⟨hcmd, -⟩ := hinv.phase_at hw
    exact ⟨hcmd, hlim⟩
  | frameNext hw | frameLast hw | pollNext hw => exact hinv.phase_at hw
  | r3Begins hw _ hc =>
    exact ⟨hinv.phase_at hw, hc, le_rfl, fun j hj => R3.isSome_below_set (i := 0) (by simp) hj⟩
  | resetPasses hw =>
    obtain ⟨-, hbus, -, -⟩ := hinv.phase_at hw
    exact phaseOk_sendTemplate hinv.cfgOk (by simp) rfl hbus (by simp)
  | appCmd hw =>
    obtain ⟨hsess, hbus, -, hloop⟩ := hinv.phase_at hw
    exact phaseOk_sendTemplate hinv.cfgOk (by simp) hsess hbus fun _ => hloop (.inl rfl)
  | loopExits hw =>
    obtain ⟨-, hbus, -, -⟩ := hinv.phase_at hw
    exact phaseOk_sendTemplate hinv.cfgOk (by simp) rfl hbus (by simp)
  | loopNext hw _ _ hlim =>
    obtain ⟨hsess, hbus, -, -⟩ := hinv.phase_at hw
    exact phaseOk_sendTemplate hinv.cfgOk (by simp) hsess hbus fun _ => hlim
  | readPasses hw =>
    obtain ⟨hsess, hbus, -, -⟩ := hinv.phase_at hw
    exact ⟨⟨hsess, hbus⟩, limitReached_zero htokenLimit⟩
  | readFails hw =>
    obtain ⟨-, hbus, -, -⟩ := hinv.phase_at hw
    exact phaseOk_raiseFail _ fun _ _ => hbus
  | ocrNext hw =>
    obtain ⟨hcmd, hc, -, hbelow⟩ := hinv.phase_at hw
    exact ⟨hcmd, hc, Nat.succ_pos _, fun j hj => R3.isSome_below_set hbelow hj⟩
  | verifyPasses hw =>
    obtain ⟨⟨-, hbus, -, -⟩, -⟩ := hinv.phase_at hw
    exact phaseOk_sendTemplate hinv.cfgOk (by simp) rfl hbus fun _ => limitReached_zero hloopLimit
  | capacityPasses hw _ hc =>
    obtain ⟨hcmd, rfl | rfl, -⟩ := hinv.phase_at hw
    · exact absurd rfl hc
    · obtain ⟨hsess, hbus, -, -⟩ := hcmd
      exact ⟨hsess, hbus⟩
  | token hw =>
    obtain ⟨hread, -⟩ := hinv.phase_at hw
    exact hread
  | tokenTimeout hw =>
    obtain ⟨⟨-, hbus⟩, -⟩ := hinv.phase_at hw
    exact phaseOk_raiseFail _ fun _ _ => hbus
  | tokenNext hw _ _ hlim =>
    obtain ⟨hread, -⟩ := hinv.phase_at hw
    exact ⟨hread, hlim⟩
  | dataReceived hw | dataStored hw | lastDataStored hw | crcNext hw => exact hinv.phase_at hw
  | crcLast hw => exact ⟨rfl, hinv.phase_at hw⟩
  | fast hw =>
    obtain ⟨hsess, -, hcs⟩ := hinv.phase_at hw
    exact ⟨hsess, rfl, hcs⟩
  | handoff hw =>
    obtain ⟨-, hfast, -, -⟩ := hinv.phase_at hw
    exact ⟨rfl, rfl, hfast, rfl, rfl⟩
  | @done res hw =>
    cases res with
    | ok =>
      obtain ⟨-, -, hbus⟩ := hinv.phase_at hw
      exact fun _ => hbus
    | fail k =>
      obtain ⟨-, hready⟩ := hinv.phase_at hw
      exact hready

theorem Transition.keeps_inv (h : Transition arg crc s t) (hinv : s.Inv) : t.Inv where
  cfgOk := by
    rw [h.cfg_eq]
    exact hinv.cfgOk
  memOk := by
    obtain hsame | ⟨i, v, -, hwrite⟩ := h.mem_cases
    · rw [hsame]
      exact hinv.memOk
    · rw [hwrite]
      exact Memory.write_wf _ _ _ hinv.memOk
  r1Ok := by
    obtain ⟨hr1, hvalid⟩ | ⟨-, v, hr1, hvalid⟩ := h.r1_cases
    · rw [hr1, hvalid]
      exact hinv.r1Ok
    · rw [hr1, hvalid]
      rfl
  errOk := by
    obtain hsame | ⟨-, hnone, -⟩ | ⟨k, -, herr, hk⟩ := h.err_cases
    · rw [hsame]
      exact hinv.errOk
    · rw [hnone]
      simp
    · rw [herr]
      simpa using hk
  phase := h.keeps_phase hinv

/-- The engine reset makes an `Idle` machine with no session (rule R260). -/
theorem State.Inv.engineReset (h : s.Inv) : s.engineReset.Inv where
  cfgOk := h.cfgOk
  memOk := h.memOk
  r1Ok := rfl
  errOk := by simp
  phase := fun hready => by cases hready

/-! ### The bus in a phase that exchanges -/

/-- The bus as an exchange of the running operation finds it: slow under manual chip-select in INIT, high exactly for
the dummy bytes, and fast under hardware chip-select in READ_BLOCK (rules R187, R188 and R218). -/
def exchangeBus (s : State) : Prop :=
  (s.pc.operation? = some .init
      ∧ ((∃ j, s.pc = .iDummy j) ∧ busSlowHigh s ∨ (∀ j, s.pc ≠ .iDummy j) ∧ busSlowLow s))
    ∨ (s.pc.operation? = some .readBlock ∧ busFast s)

theorem Phase.operation?_of_runs {p : Phase} {c : Cmd} (h : p.runs c = true) : p.operation? = some (operationOf c) := by
  cases p with
  | sReady d | sFrame d | pR1 d | pR3 d =>
    obtain rfl : d = c := of_decide_eq_true h
    rfl
  | tToken | bData | bWrite | bCrc =>
    obtain rfl : c = .cmd17 := of_decide_eq_true h
    rfl
  | _ => cases h

theorem exchangeBus_of_command {c : Cmd} (hcmd : commandOk c s) (hpc : s.pc.command? = some c) : exchangeBus s := by
  have hop : s.pc.operation? = some (operationOf c) := Phase.operation?_of_runs (Phase.runs_of_command? hpc)
  have hdummy : ∀ j, s.pc ≠ .iDummy j := by
    rintro j hp
    rw [hp] at hpc
    cases hpc
  obtain ⟨hinit, hslow⟩ | ⟨hread, hfast⟩ := commandOk_bus hcmd
  · exact .inl ⟨hop.trans (congrArg some hinit), .inr ⟨hdummy, hslow⟩⟩
  · exact .inr ⟨hop.trans (congrArg some hread), hfast⟩

theorem State.Inv.exchangeBus (h : s.Inv) (hx : s.pc.exchanges = true) : exchangeBus s := by
  cases hpc : s.pc with
  | iDummy j =>
    obtain ⟨-, hbus⟩ := h.phase_at hpc
    exact .inl ⟨by rw [hpc]; rfl, .inl ⟨⟨j, hpc⟩, hbus⟩⟩
  | iFlush j =>
    obtain ⟨-, hbus⟩ := h.phase_at hpc
    exact .inl ⟨by rw [hpc]; rfl, .inr ⟨by simp [hpc], hbus⟩⟩
  | sReady c n =>
    obtain ⟨hcmd, -⟩ := h.phase_at hpc
    exact exchangeBus_of_command hcmd (by rw [hpc]; rfl)
  | sFrame c j | pR1 c k => exact exchangeBus_of_command (h.phase_at hpc) (by rw [hpc]; rfl)
  | pR3 c i =>
    obtain ⟨hcmd, -⟩ := h.phase_at hpc
    exact exchangeBus_of_command hcmd (by rw [hpc]; rfl)
  | tToken n =>
    obtain ⟨⟨-, hbus⟩, -⟩ := h.phase_at hpc
    exact .inr ⟨by rw [hpc]; rfl, hbus⟩
  | bData i | bCrc j =>
    obtain ⟨-, hbus⟩ := h.phase_at hpc
    exact .inr ⟨by rw [hpc]; rfl, hbus⟩
  | _ => rw [hpc] at hx; cases hx

/-- A frame byte is not a dummy byte, so an exchange with chip-select high is a filler (rule R188). -/
theorem State.Inv.disciplined_exchange (h : s.Inv) (hx : s.pc.exchanges = true) {tx : Byte} (rx : Byte)
    (htx : tx = filler ∨ ∃ c j, s.pc = .sFrame c j) :
    (Event.xfer tx rx s.profile s.csMode s.csLevel).disciplined := by
  obtain ⟨-, ⟨⟨j, hdummy⟩, hslow, hmanual, hhigh⟩ | ⟨-, hslow, hmanual, hlow⟩⟩ | ⟨-, hfast⟩ := h.exchangeBus hx
  · refine .inl ⟨hslow, hmanual, .inr ⟨hhigh, ?_⟩⟩
    obtain hfill | ⟨c, j, hframe⟩ := htx
    · exact hfill
    · exact absurd (hdummy.symm.trans hframe) (by simp)
  · exact .inl ⟨hslow, hmanual, .inl hlow⟩
  · exact .inr hfast

/-- The events a state has recorded stay disciplined where a disciplined one is added. -/
theorem State.Disciplined.cons {e : Event} (h : s.Disciplined) (he : e.disciplined) (ht : t.history = e :: s.history) :
    t.Disciplined := by
  intro d hd
  rw [ht, List.mem_cons] at hd
  obtain rfl | hd := hd
  · exact he
  · exact h d hd

theorem Transition.keeps_discipline (h : Transition arg crc s t) (hinv : s.Inv) (hs : s.Disciplined) :
    t.Disciplined := by
  obtain hsame | ⟨tx, rx, hrec, hx, htx⟩ | ⟨e, hrec, he⟩ := h.history_cases
  · intro d hd
    exact hs d (hsame ▸ hd)
  · exact hs.cons (hinv.disciplined_exchange hx rx htx) hrec
  · refine hs.cons ?_ hrec
    cases e with
    | xfer tx rx p m l => exact absurd rfl (he tx rx p m l)
    | _ => trivial

/-! ### The obligations -/

/-- Settles O57: the reset machine is `Idle` with no session, in the standard configuration. -/
theorem resetMeetsInvariant : Obligations.ResetMeetsInvariant where
  cfgOk := by decide
  memOk := Memory.reset_wf
  r1Ok := rfl
  errOk := by simp [State.reset, State.resetWith]
  phase := fun hready => by cases hready

/-- Settles O58: a step is a transition of the engine, a request accepted in `Idle`, nothing, or the engine reset. -/
theorem stepKeepsInvariant : Obligations.StepKeepsInvariant := by
  intro s t hinv h
  obtain ⟨p, hrun | ⟨-, rfl⟩ | ⟨hidle, hready, a, rfl⟩ | ⟨-, rfl⟩ | rfl⟩ := step_next h
  · exact (engineEvent_next hrun).keeps_inv (hinv.with_port p)
  · exact ⟨hinv.cfgOk, hinv.memOk, hinv.r1Ok, hinv.errOk, trivial⟩
  · exact ⟨hinv.cfgOk, hinv.memOk, hinv.r1Ok, hinv.errOk,
      phaseOk_send_cmd17 (hinv.with_port p).cfgOk hready (hinv.phase_at hidle hready) _⟩
  · exact hinv.with_port p
  · exact (hinv.with_port p).engineReset

/-- Settles O59: only a transition of the engine records an event, and it keeps the discipline. -/
theorem stepKeepsBusDiscipline : Obligations.StepKeepsBusDiscipline := by
  intro s t hinv hs h
  obtain ⟨p, hrun | ⟨-, rfl⟩ | ⟨-, -, a, rfl⟩ | ⟨-, rfl⟩ | rfl⟩ := step_next h
  · exact (engineEvent_next hrun).keeps_discipline (hinv.with_port p) hs
  all_goals exact hs

/-- Settles O60: the exchange a step records has the bus control its phase has under the invariant. -/
theorem exchangesUseTheirProfile : Obligations.ExchangesUseTheirProfile := by
  intro s t tx rx p m l hinv h hrec
  obtain ⟨port, hrun | ⟨-, rfl⟩ | ⟨-, -, a, rfl⟩ | ⟨-, rfl⟩ | rfl⟩ := step_next h
  case inl =>
    obtain hsame | ⟨tx', rx', hxfer, hx, -⟩ | ⟨e, hother, he⟩ := (engineEvent_next hrun).history_cases
    · exact absurd (hrec.symm.trans hsame) (by simp)
    · cases hrec.symm.trans hxfer
      obtain ⟨hop, hbus⟩ | ⟨hop, hfast, hhw, -⟩ := hinv.exchangeBus hx
      · refine ⟨fun _ => ?_, fun hread => absurd (hop.symm.trans hread) (by simp)⟩
        obtain ⟨hdummy, hslow, hmanual, hhigh⟩ | ⟨hdummy, hslow, hmanual, hlow⟩ := hbus
        · exact ⟨hslow, hmanual, fun _ => hhigh, fun hno => absurd hdummy (not_exists.mpr hno)⟩
        · exact ⟨hslow, hmanual, fun hyes => absurd hyes (not_exists.mpr hdummy), fun _ => hlow⟩
      · exact ⟨fun hinit => absurd (hop.symm.trans hinit) (by simp), fun _ => ⟨hfast, hhw⟩⟩
    · cases hrec.symm.trans hother
      exact absurd rfl (he _ _ _ _ _)
  all_goals exact absurd hrec.symm (List.cons_ne_self _ _)

end Sys2Proof.Machine
end

section
/-! The step and the host's port (40_bus_interface.md section 1), the reset (70_reset_and_hazards.md section 1), and
executing an instruction where it runs. -/

namespace Sys2Proof.Machine

variable {s : State}

/-! ### Which agent moves (rule R100) -/

theorem step_eq_running (hport : s.port = []) : step s = running s := by
  rw [step, portStep, hport]

theorem step_of_present {req : BitVec 34} {rest : List HostMove} (hport : s.port = .present req :: rest) :
    step s = presented req { s with port := rest } := by
  rw [step, portStep, hport]

theorem step_of_reset {rest : List HostMove} (hport : s.port = .reset :: rest) :
    step s = .next (State.engineReset { s with port := rest }) := by
  rw [step, portStep, hport]

theorem presented_of_ok {req : BitVec 34} {i : Instr} (h : decode (.request req) = .ok i) :
    presented req s = if s.pc = .idle then exec i s else .fault .hostOverlap := by
  rw [presented, h]

theorem presented_noRequest (addr : Word32) : presented (requestWord 0b00#2 addr) s = running s := by
  rw [presented, decode, decodeRequest_noRequest]

theorem presented_reserved (addr : Word32) :
    presented (requestWord 0b11#2 addr) s = .refused .reservedRequest := by
  rw [presented, decode, decodeRequest_reserved]

/-- `Idle` has no event (rule R250). -/
theorem running_idle (hpc : s.pc = .idle) : running s = .next s := by
  rw [running_eq_engineEvent, engineEvent, phaseEvent_idle _ _ hpc]

/-! ### Executing a request inside its operation (rules R12 and R22) -/

theorem exec_init_running (h : s.pc.operation? = some .init) (addr : Word32) :
    exec (.init addr) s = engineEvent s := by
  simp [exec, execInit, h]

theorem exec_readBlock_running (h : s.pc.operation? = some .readBlock) (addr : Word32) :
    exec (.readBlock addr) s = engineEvent s := by
  simp [exec, execReadBlock, h]

theorem exec_init_done {res : Result} (h : s.pc = .done res) (addr : Word32) :
    exec (.init addr) s = engineEvent s := by
  simp [exec, execInit, h, Phase.operation?]

theorem exec_readBlock_done {res : Result} (h : s.pc = .done res) (addr : Word32) :
    exec (.readBlock addr) s = engineEvent s := by
  simp [exec, execReadBlock, h, Phase.operation?]

/-- The engine's event in a command's phase is that of the command's own frame (rules R22, R79 and R123). -/
theorem exec_command_running {c : Cmd} (h : s.pc.command? = some c) :
    exec (Instr.command c s.cmdArg (s.cfg.templateCrc c)) s = engineEvent s := by
  rw [exec_command_eq_phaseEvent h, engineEvent, State.frameCrc, h]

/-! ### Placing a word -/

@[simp] theorem Templates.get_set (ts : Templates) (c : Cmd) (v : Template) : (ts.set c v).get c = v := by
  cases c <;> rfl

/-- A placed frame is what the next step runs: its phase, argument and CRC are those the step reads. -/
theorem step_placeFrame (c : Cmd) (arg : Word32) (crc : BitVec 7) :
    step (s.placeFrame c arg crc) = exec (Instr.command c arg crc) (s.placeFrame c arg crc) := by
  have hcrc : (s.placeFrame c arg crc).cfg.templateCrc c = crc :=
    congrArg Template.crc (Templates.get_set s.cfg.templates c _)
  have hrun := exec_command_running (s := s.placeFrame c arg crc) (c := c) rfl
  rw [hcrc] at hrun
  exact (step_of_port_nil rfl).trans hrun.symm

theorem placeInstr_command (c : Cmd) (arg : Word32) (crc : BitVec 7) :
    s.placeInstr (Instr.command c arg crc) = s.placeFrame c arg crc := by
  cases c <;> rfl

theorem withFetchWord_of_some {nbits w : Nat} {i : Instr} (h : decodeTableWord nbits w = some i) :
    s.withFetchWord nbits w = s.placeInstr i := by
  rw [State.withFetchWord, h]

/-- A table word that decodes is a frame above 40 bits and a request up to 40. -/
theorem decodeTableWord_some {nbits w : Nat} {i : Instr} (h : decodeTableWord nbits w = some i) :
    (40 < nbits ∧ ∃ c arg crc, i = Instr.command c arg crc)
      ∨ (¬ 40 < nbits ∧ ∃ addr, i = .init addr ∨ i = .readBlock addr) := by
  have of_some : ∀ {r : Except DecodeError Instr}, decodedInstr r = some i → r = .ok i := by
    intro r hr
    cases r <;> cases hr
    rfl
  unfold decodeTableWord tableCodeWord at h
  split_ifs at h with h48 hw h40 hw
  · obtain ⟨c, -, -, -, hi⟩ := decodeFrame_ok (of_some h)
    exact .inl ⟨h48.1, c, _, _, hi⟩
  · refine .inr ⟨Nat.not_lt.mpr h40.2, ?_⟩
    obtain hi | hi := decodeRequest_ok (of_some h)
    · exact ⟨_, .inl hi⟩
    · exact ⟨_, .inr hi⟩

/-! ### The obligations -/

/-- Settles O10: with nothing at the port the step is the engine's move, which fetches, decodes and executes. -/
theorem stepRunsFetchedInstruction : Obligations.StepRunsFetchedInstruction := by
  intro s w i hport hw hi
  rw [step_eq_running hport, running, hw]
  simp only [hi]

/-- Settles O11: a presented request that decodes is executed in `Idle` (rule R100). -/
theorem stepRunsPresentedRequest : Obligations.StepRunsPresentedRequest := by
  intro s req rest i hport hidle hi
  rw [step_of_present hport, presented_of_ok hi, if_pos hidle]

/-- Settles O12: a frame is placed in its own phase, and a request at the port of an `Idle` machine. -/
theorem placedWordRunsNext : Obligations.PlacedWordRunsNext := by
  intro s nbits w i h
  rw [withFetchWord_of_some h]
  obtain ⟨hbits, c, arg, crc, rfl⟩ | ⟨hbits, addr, rfl | rfl⟩ := decodeTableWord_some h
  · rw [if_pos hbits, placeInstr_command]
    exact step_placeFrame c arg crc
  · rw [if_neg hbits]
    exact (step_of_present rfl).trans ((presented_of_ok (decodeRequest_init addr)).trans (if_pos rfl))
  · rw [if_neg hbits]
    exact (step_of_present rfl).trans ((presented_of_ok (decodeRequest_readBlock addr)).trans (if_pos rfl))

/-- Settles O13: executing either request inside its operation, and a command inside its phases, is the engine's own
event, which is the step. -/
theorem operationExpandsInPlace : Obligations.OperationExpandsInPlace := by
  intro s hport
  rw [step_of_port_nil hport]
  exact ⟨fun addr hop => (exec_init_running hop addr).symm, fun addr hop => (exec_readBlock_running hop addr).symm,
    fun c hc => (exec_command_running hc).symm⟩

/-- Settles O14: a presented request that decodes is the overlap in every phase but `Idle` (rule R240). -/
theorem busyRequestOverlaps : Obligations.BusyRequestOverlaps := by
  intro s req rest i hport hbusy hi
  rw [step_of_present hport, presented_of_ok hi, if_neg hbusy]

/-- Settles O15: `op = 11` is refused before the phase is looked at (rule R241). -/
theorem reservedRequestRefused : Obligations.ReservedRequestRefused := fun _ addr _ hport =>
  (step_of_present hport).trans (presented_reserved addr)

/-- Settles O16: `op = 00` and an empty port both leave the engine its own move, and `Idle` has none (rule R250). -/
theorem noRequestLetsTheEngineMove : Obligations.NoRequestLetsTheEngineMove := by
  constructor
  · intro s addr rest hport
    have hstep : step s = running { s with port := rest } := (step_of_present hport).trans (presented_noRequest addr)
    exact ⟨hstep, fun hidle => hstep.trans (running_idle hidle)⟩
  · intro s hport
    exact ⟨step_eq_running hport, fun hidle => (step_eq_running hport).trans (running_idle hidle)⟩

theorem R3.get_empty (i : Fin 5) : R3.empty.get i = none := by fin_cases i <;> rfl

/-- Settles O17: the fields of the state rule R39 gives. -/
theorem resetRegisters : Obligations.ResetRegisters :=
  ⟨rfl, rfl, rfl, rfl, rfl, R3.get_empty, rfl, rfl, rfl, rfl⟩

/-- Settles O18: the step is the engine reset, whose fields its laws give (rule R260). -/
theorem engineResetAtAnyTime : Obligations.EngineResetAtAnyTime := by
  intro s rest hport
  exact ⟨_, step_of_reset hport, rfl, rfl, rfl, rfl, rfl, R3.get_empty, rfl, rfl, rfl, rfl, rfl, rfl, rfl, rfl, rfl⟩

/-! ### No check reads an empty register (rule R240) -/

/-- An exchange that faults is stuck, or what follows it faults. -/
theorem xfer_fault {tx : Byte} {f : Fault} {k : Byte → State → Host.Outcome State Fault Refusal}
    (h : xfer tx s k = .fault f) : f = .transferStuck ∨ ∃ rx, k rx (s.afterXfer tx rx) = .fault f := by
  cases hrx : s.rx? with
  | none => rw [xfer_of_none hrx] at h; cases h; exact .inl rfl
  | some rx => exact .inr ⟨rx, by rwa [xfer_of_some hrx] at h⟩

/-- A phase that exchanges does nothing before its exchange, and after it, but for the R3 read, always goes on (rules
R21 and R101). -/
theorem phaseEvent_exchange (hx : s.pc.exchanges = true) (arg : Word32) (crc : BitVec 7) :
    ∃ tx k, phaseEvent arg crc s = xfer tx s k
      ∧ ((∃ c i, s.pc = .pR3 c i) ∨ ∀ rx u, ∃ t, k rx u = .next t) := by
  cases hpc : s.pc with
  | pR3 c i => exact ⟨_, _, phaseEvent_pR3 _ _ hpc, .inl ⟨c, i, rfl⟩⟩
  | iDummy j => exact ⟨_, _, phaseEvent_iDummy _ _ hpc, .inr fun _ _ => ⟨_, rfl⟩⟩
  | iFlush j => exact ⟨_, _, phaseEvent_iFlush _ _ hpc, .inr fun _ _ => ⟨_, rfl⟩⟩
  | sReady c n => exact ⟨_, _, phaseEvent_sReady _ _ hpc, .inr fun _ _ => ⟨_, rfl⟩⟩
  | sFrame c j => exact ⟨_, _, phaseEvent_sFrame _ _ hpc, .inr fun _ _ => ⟨_, rfl⟩⟩
  | pR1 c k => exact ⟨_, _, phaseEvent_pR1 _ _ hpc, .inr fun _ _ => ⟨_, rfl⟩⟩
  | tToken n => exact ⟨_, _, phaseEvent_tToken _ _ hpc, .inr fun _ _ => ⟨_, rfl⟩⟩
  | bData i => exact ⟨_, _, phaseEvent_bData _ _ hpc, .inr fun _ _ => ⟨_, rfl⟩⟩
  | bCrc j => exact ⟨_, _, phaseEvent_bCrc _ _ hpc, .inr fun _ _ => ⟨_, rfl⟩⟩
  | _ => rw [hpc] at hx; cases hx

/-- The event of a phase that does not exchange always goes on. -/
theorem phaseEvent_no_exchange (hx : s.pc.exchanges = false) (arg : Word32) (crc : BitVec 7) :
    ∃ t, phaseEvent arg crc s = .next t := by
  cases hpc : s.pc with
  | iDummy | iFlush | sReady | sFrame | pR1 | pR3 | tToken | bData | bCrc => rw [hpc] at hx; cases hx
  | _ => rw [phaseEvent, hpc]; exact ⟨_, rfl⟩

/-- Only an R3 read is followed by a check of `r3`. -/
theorem phaseEvent_unwrittenRead {arg : Word32} {crc : BitVec 7} (h : phaseEvent arg crc s = .fault .unwrittenRead) :
    ∃ c i, s.pc = .pR3 c i := by
  cases hx : s.pc.exchanges with
  | false =>
    obtain ⟨t, ht⟩ := phaseEvent_no_exchange hx arg crc
    cases h.symm.trans ht
  | true =>
    obtain ⟨tx, k, hxfer, hread | hnext⟩ := phaseEvent_exchange hx arg crc
    · exact hread
    · obtain hstuck | ⟨rx, hfault⟩ := xfer_fault (hxfer.symm.trans h)
      · cases hstuck
      · obtain ⟨t, ht⟩ := hnext rx (s.afterXfer tx rx)
        cases hfault.symm.trans ht

theorem checkVerify_ne_fault {f : Fault} (h : (s.r3.get 4).isSome = true) : checkVerify s ≠ .fault f := by
  obtain ⟨v, hv⟩ := Option.isSome_iff_exists.mp h
  rw [checkVerify, hv]
  simp

theorem checkOcr_ne_fault {f : Fault} (h0 : (s.r3.get 0).isSome = true) (h1 : (s.r3.get 1).isSome = true) :
    checkOcr s ≠ .fault f := by
  obtain ⟨v0, hv0⟩ := Option.isSome_iff_exists.mp h0
  obtain ⟨v1, hv1⟩ := Option.isSome_iff_exists.mp h1
  rw [checkOcr, hv0, hv1]
  simp

/-- Where the bytes below byte i are written, the check that follows byte i reads none that is empty. -/
theorem readOcr_ne_unwrittenRead {c : Cmd} {i : Fin 5} (below : ∀ j : Fin 5, j.val < i.val → (s.r3.get j).isSome = true) :
    readOcr c i s ≠ .fault .unwrittenRead := by
  intro h
  obtain hstuck | ⟨rx, hrest⟩ := xfer_fault h
  · cases hstuck
  have written : ∀ j : Fin 5, ¬ i.val + 1 < 5 → ((s.r3.set i rx).get j).isSome = true := fun j hi =>
    R3.isSome_below_set below (by omega)
  split_ifs at hrest with hi hc
  · exact checkVerify_ne_fault (written 4 hi) hrest
  · exact checkOcr_ne_fault (written 0 hi) (written 1 hi) hrest

theorem engineEvent_ne_unwrittenRead (hinv : s.Inv) : engineEvent s ≠ .fault .unwrittenRead := by
  intro h
  obtain ⟨c, i, hpc⟩ := phaseEvent_unwrittenRead h
  obtain ⟨-, -, -, hbelow⟩ := hinv.phase_at hpc
  rw [engineEvent, phaseEvent_pR3 _ _ hpc] at h
  exact readOcr_ne_unwrittenRead hbelow h

/-- A presented word faults by the overlap, by a READ_BLOCK that is not ready, or as the engine's own move does. -/
theorem presented_unwrittenRead {req : BitVec 34} (h : presented req s = .fault .unwrittenRead) :
    engineEvent s = .fault .unwrittenRead := by
  rw [← running_eq_engineEvent]
  unfold presented at h
  split at h
  · rename_i i hi
    split_ifs at h with hidle
    · obtain rfl | rfl := decodeRequest_ok hi
      · rw [exec_init_idle hidle] at h
        cases h
      · rw [exec_readBlock_idle hidle] at h
        split_ifs at h
        cases h
    · cases h
  · exact h
  · cases h

/-- Settles O56: only the engine's own event reads `r3`, and its phase has the bytes below written. -/
theorem noUnwrittenRead : Obligations.NoUnwrittenRead := by
  intro s hinv h
  have hrun : ∀ p, engineEvent { s with port := p } ≠ .fault .unwrittenRead := fun p =>
    engineEvent_ne_unwrittenRead (hinv.with_port p)
  unfold step portStep at h
  split at h
  · exact hrun s.port ((running_eq_engineEvent s).symm.trans h)
  · cases h
  · exact hrun _ (presented_unwrittenRead h)
  · split_ifs at h
    exact hrun s.port ((running_eq_engineEvent s).symm.trans h)

end Sys2Proof.Machine
end

section
/-! The frames: what the commands of INIT, READ_BLOCK and INIT leave unchanged, read off the writers of each register. -/

namespace Sys2Proof.Machine

variable {arg : Word32} {crc : BitVec 7} {s t : State}

/-! ### Phases by what runs in them -/

theorem Phase.ne_of_runs {p q : Phase} {c : Cmd} (hp : p.runs c = true) (hq : q.runs c = false) : p ≠ q := by
  rintro rfl
  exact absurd (hp.symm.trans hq) (by decide)

theorem Phase.ne_of_operation? {p q : Phase} {op : Operation} (hp : p.operation? ≠ some op)
    (hq : q.operation? = some op) : p ≠ q := by
  rintro rfl
  exact hp hq

/-- A command goes on from its phase or from its ready-wait, so it is in no third phase. -/
theorem Phase.ne_of_started {p p' q : Phase} {c : Cmd} (hp : p = p' ∨ p = .sReady c 0) (hne : p' ≠ q)
    (hstart : .sReady c 0 ≠ q) : p ≠ q := by
  obtain rfl | rfl := hp
  · exact hne
  · exact hstart

/-! ### Executing an instruction is a transition of the engine -/

/-- An executed command goes on from the phase it is in, or from its ready-wait where it is not in progress, with its
argument latched (rules R120 and R136 to R141). -/
theorem exec_command_next {c : Cmd} (h : exec (Instr.command c arg crc) s = .next t) :
    ∃ p a, Transition arg crc { s with pc := p, cmdArg := a } t ∧ p.runs c = true
      ∧ (p = s.pc ∨ p = .sReady c 0) ∧ (s.pc.runs c = true → a = s.cmdArg) := by
  rw [exec_command, commandStep] at h
  split_ifs at h with hruns
  · exact ⟨s.pc, s.cmdArg, phaseEvent_next h, hruns, .inl rfl, fun _ => rfl⟩
  · exact ⟨.sReady c 0, arg, phaseEvent_next h, decide_eq_true rfl, .inr rfl, fun hyes => absurd hyes hruns⟩

/-- READ_BLOCK is accepted in `Idle`; elsewhere it goes on by a transition outside INIT (rules R100 and R240). -/
theorem exec_readBlock_next {addr : Word32} (h : exec (.readBlock addr) s = .next t) :
    (s.pc = .idle ∧ ∃ a, t = s.send .cmd17 a)
      ∨ (Transition s.cmdArg s.frameCrc s t ∧ s.pc.operation? ≠ some .init) := by
  cases hop : s.pc.operation? with
  | some op =>
    cases op with
    | init => simp [exec, execReadBlock, hop] at h
    | readBlock =>
      rw [exec_readBlock_running hop] at h
      exact .inr ⟨engineEvent_next h, by simp⟩
  | none =>
    cases hpc : s.pc with
    | idle =>
      rw [exec_readBlock_idle hpc] at h
      split_ifs at h with hready
      cases h
      exact .inl ⟨rfl, _, rfl⟩
    | done res =>
      rw [exec_readBlock_done hpc] at h
      exact .inr ⟨engineEvent_next h, by simp⟩
    | _ => rw [hpc] at hop; cases hop

/-- INIT is accepted in `Idle`; elsewhere it goes on by a transition outside READ_BLOCK (rules R100 and R240). -/
theorem exec_init_next {addr : Word32} (h : exec (.init addr) s = .next t) :
    (s.pc = .idle ∧ t = s.goto .iDetect)
      ∨ (Transition s.cmdArg s.frameCrc s t ∧ s.pc.operation? ≠ some .readBlock) := by
  cases hop : s.pc.operation? with
  | some op =>
    cases op with
    | readBlock => simp [exec, execInit, hop] at h
    | init =>
      rw [exec_init_running hop] at h
      exact .inr ⟨engineEvent_next h, by simp⟩
  | none =>
    cases hpc : s.pc with
    | idle =>
      rw [exec_init_idle hpc] at h
      cases h
      exact .inl ⟨rfl, rfl⟩
    | done res =>
      rw [exec_init_done hpc] at h
      exact .inr ⟨engineEvent_next h, by simp⟩
    | _ => rw [hpc] at hop; cases hop

/-! ### The obligations -/

/-- Settles O48: a command of INIT runs in its own phases only, which write no bus control, memory or card-detect. -/
theorem initCommandFrame : Obligations.InitCommandFrame := by
  intro c arg crc s t hc h
  obtain ⟨p, a, hT, hruns, hp, ha⟩ := exec_command_next h
  have h17 : decide (c = .cmd17) = false := decide_eq_false hc
  have hpoll_other : ∀ {d}, c ≠ d → ∀ k, p ≠ .pR1 d k := fun hd k =>
    Phase.ne_of_runs hruns (decide_eq_false hd.symm)
  have hread_other : ∀ {d}, c ≠ d → ∀ i, p ≠ .pR3 d i := fun hd i =>
    Phase.ne_of_runs hruns (decide_eq_false hd.symm)
  have hpoll : (∀ k, s.pc ≠ .pR1 c k) → ∀ d k, p ≠ .pR1 d k := by
    intro hne d k
    obtain rfl | hd := eq_or_ne c d
    · exact Phase.ne_of_started hp (hne k) (by simp)
    · exact hpoll_other hd k
  have hread : (∀ i, s.pc ≠ .pR3 c i) → ∀ d i, p ≠ .pR3 d i := by
    intro hne d i
    obtain rfl | hd := eq_or_ne c d
    · exact Phase.ne_of_started hp (hne i) (by simp)
    · exact hread_other hd i
  obtain ⟨hmode, hlevel⟩ := hT.cs_eq (Phase.ne_of_runs hruns rfl) (Phase.ne_of_runs hruns rfl)
    (Phase.ne_of_runs hruns rfl)
  refine ⟨hT.profile_eq (Phase.ne_of_runs hruns rfl) (Phase.ne_of_runs hruns rfl), hmode, hlevel, hT.cfg_eq,
    hT.port_eq, hT.detect_eq (Phase.ne_of_runs hruns rfl), fun a => ?_, fun hne => hT.r1_eq (hpoll hne),
    fun h8 h58 hne => hT.r3_eq ?_ (hread hne), fun hp1 hp3 => ⟨?_, ?_⟩, fun h8 h41 _ => ?_, fun hfail => ?_,
    fun hp1 hp3 hfail => ?_, fun hcmd hfail => ?_, fun hsame hsent => ?_⟩
  · obtain hmem | ⟨i, v, hw, -⟩ := hT.mem_cases
    · rw [hmem]
    · exact absurd hw (Phase.ne_of_runs hruns h17)
  · rintro d k (rfl | rfl)
    · exact hpoll_other h8 k
    · exact hpoll_other h58 k
  · exact hT.r3_eq (fun d k _ => hpoll hp1 d k) (hread hp3)
  · exact hT.it_eq (hpoll hp1 _) (hread hp3 _)
  · exact hT.it_eq (hpoll_other h41) (hread_other h8)
  · obtain herr | ⟨-, -, hw | ⟨j, hw⟩⟩ | ⟨k, hk, -, -⟩ := hT.err_cases
    · exact herr
    · exact absurd hw (Phase.ne_of_runs hruns rfl)
    · exact absurd hw (Phase.ne_of_runs hruns h17)
    · exact absurd hk (hfail k)
  · exact hT.sess_eq (Phase.ne_of_runs hruns rfl) (Phase.ne_of_runs hruns rfl) (fun d k _ => hpoll hp1 d k)
      (hread hp3 _) hfail
  · refine hT.sess_eq (Phase.ne_of_runs hruns rfl) (Phase.ne_of_runs hruns rfl) ?_ (hread_other ?_) hfail
    · rintro d k (rfl | rfl)
      · exact hpoll_other (by rintro rfl; simp at hcmd) k
      · exact hpoll_other (by rintro rfl; simp at hcmd) k
    · rintro rfl
      simp at hcmd
  · obtain harg | ⟨-, d, hd⟩ := hT.cmdArg_cases
    · exact harg.trans (ha hsame)
    · exact absurd hd (hsent d)

/-- What an executed READ_BLOCK or CMD17 is: a READ_BLOCK accepted, or a transition outside INIT from the phase it is in
or from CMD17's ready-wait. -/
theorem exec_read_next {i : Instr} (hi : (∃ a, i = .readBlock a) ∨ ∃ a crc, i = .cmd17 a crc)
    (h : exec i s = .next t) :
    (s.pc = .idle ∧ ∃ a, t = s.send .cmd17 a)
      ∨ ∃ arg crc p a, Transition arg crc { s with pc := p, cmdArg := a } t ∧ p.operation? ≠ some .init
        ∧ (p = s.pc ∨ p = .sReady .cmd17 0) ∧ (s.pc.runs .cmd17 = true → a = s.cmdArg) := by
  obtain ⟨addr, rfl⟩ | ⟨arg, crc, rfl⟩ := hi
  · obtain hidle | ⟨hT, hop⟩ := exec_readBlock_next h
    · exact .inl hidle
    · exact .inr ⟨_, _, s.pc, s.cmdArg, hT, hop, .inl rfl, fun _ => rfl⟩
  · obtain ⟨p, a, hT, hruns, hp, ha⟩ := exec_command_next (c := .cmd17) h
    exact .inr ⟨_, _, p, a, hT, by rw [Phase.operation?_of_runs hruns]; decide, hp, ha⟩

/-- Settles O49: outside INIT's phases the session and the bus control have no writer, and one byte of memory has one. -/
theorem readBlockFrame : Obligations.ReadBlockFrame := by
  intro i s t hi hno h
  obtain ⟨hidle, a, rfl⟩ | ⟨arg, crc, p, a, hT, hop, hp, ha⟩ := exec_read_next hi h
  · refine ⟨rfl, rfl, rfl, rfl, rfl, rfl, rfl, rfl, rfl, fun _ => ⟨rfl, rfl⟩, fun hruns => ?_, fun _ => rfl,
      fun _ _ => rfl⟩
    rw [hidle] at hruns
    cases hruns
  have hnot : ∀ {q : Phase}, q.operation? = some .init → p ≠ q := fun hq => Phase.ne_of_operation? hop hq
  have hread : ∀ c j, p ≠ .pR3 c j := by
    intro c j
    cases c
    case cmd17 => exact Phase.ne_of_started hp (hno j) (by simp)
    all_goals exact hnot rfl
  obtain ⟨hmode, hlevel⟩ := hT.cs_eq (hnot rfl) (hnot rfl) (hnot rfl)
  refine ⟨hT.readBlock_sess_eq hop (hread _), hT.r3_eq ?_ hread, hT.it_eq (fun k => hnot rfl) (hread _),
    hT.profile_eq (hnot rfl) (hnot rfl), hmode, hlevel, hT.cfg_eq, hT.port_eq, hT.detect_eq (hnot rfl),
    fun hpoll => hT.r1_eq ?_, fun hruns => ?_, fun hdone => ?_, fun a hother => ?_⟩
  · rintro c k (rfl | rfl)
    · exact hnot rfl
    · exact hnot rfl
  · intro c k
    cases c
    case cmd17 => exact Phase.ne_of_started hp (hpoll k) (by simp)
    all_goals exact hnot rfl
  · obtain harg | ⟨hinit, -⟩ := hT.cmdArg_cases
    · exact harg.trans (ha hruns)
    · exact absurd hinit hop
  · obtain herr | ⟨hok, -, -⟩ | ⟨k, hk, -, -⟩ := hT.err_cases
    · exact herr
    · exact absurd hok (hdone _)
    · exact absurd hk (hdone _)
  · obtain hmem | ⟨j, v, hw, hmem⟩ := hT.mem_cases
    · rw [hmem]
    · obtain rfl | rfl := hp
      · rw [hmem]
        exact Memory.read?_write_other s.mem v (hother j v hw)
      · cases hw

/-- Settles O50: INIT has none of the phases that write memory, and each register outside its writers is kept. -/
theorem initFrame : Obligations.InitFrame := by
  intro addr s t h
  obtain ⟨-, rfl⟩ | ⟨hT, hop⟩ := exec_init_next h
  · exact ⟨fun _ => rfl, rfl, rfl, fun _ => rfl, fun _ _ => rfl, fun _ _ _ => ⟨rfl, rfl⟩, fun _ => ⟨rfl, rfl⟩,
      fun _ _ => ⟨rfl, rfl⟩, fun _ => rfl, fun _ => rfl, fun _ _ _ _ _ => rfl⟩
  refine ⟨fun a => ?_, hT.cfg_eq, hT.port_eq, hT.detect_eq, hT.profile_eq, hT.cs_eq, hT.r1_eq,
    fun hpoll hread => ⟨hT.r3_eq (fun c k _ => hpoll c k) hread, hT.it_eq (hpoll _) (hread _)⟩, fun hsent => ?_,
    fun hdone => ?_, fun hlow hoff hpoll hread hfail => hT.sess_eq hlow hoff (fun c k _ => hpoll c k) (hread _) hfail⟩
  · obtain hmem | ⟨i, v, hw, -⟩ := hT.mem_cases
    · rw [hmem]
    · exact absurd hw (Phase.ne_of_operation? hop rfl)
  · obtain harg | ⟨-, c, hc⟩ := hT.cmdArg_cases
    · exact harg
    · exact absurd hc (hsent c)
  · obtain herr | ⟨hok, -, -⟩ | ⟨k, hk, -, -⟩ := hT.err_cases
    · exact herr
    · exact absurd hok (hdone _)
    · exact absurd hk (hdone _)

end Sys2Proof.Machine
end

section
/-! The whole-machine rules: what no step does, whichever agent moves. -/

namespace Sys2Proof.Machine

/-- Settles O51: of everything a step can be, only the write half of `B_Data(i)` writes memory (rule R50). -/
theorem onlyBufferWritesChangeMemory : Obligations.OnlyBufferWritesChangeMemory := by
  intro s t a h hne
  obtain ⟨p, hrun | ⟨-, rfl⟩ | ⟨-, -, b, rfl⟩ | ⟨-, rfl⟩ | rfl⟩ := step_next h
  case inl =>
    obtain hsame | ⟨i, v, hw, hmem⟩ := (engineEvent_next hrun).mem_cases
    · exact absurd (by rw [hsame]) hne
    · rw [hmem] at hne ⊢
      by_cases ha : a = s.cfg.buf + i.val
      · subst ha
        exact ⟨i, v, hw, rfl, Nat.le_add_right _ _, Nat.add_lt_add_left i.isLt _, Memory.read?_write_same _ _ _⟩
      · exact absurd (Memory.read?_write_other s.mem v ha) hne
  all_goals exact absurd rfl hne

/-- Settles O52: a transition of the engine records at most one event and keeps the configuration, and nothing else
records one. -/
theorem atMostOneEventAStep : Obligations.AtMostOneEventAStep := by
  intro s t h
  obtain ⟨p, hrun | ⟨-, rfl⟩ | ⟨-, -, b, rfl⟩ | ⟨-, rfl⟩ | rfl⟩ := step_next h
  case inl =>
    have hT := engineEvent_next hrun
    refine ⟨?_, hT.cfg_eq⟩
    obtain hsame | ⟨tx, rx, hrec, -⟩ | ⟨e, hrec, -⟩ := hT.history_cases
    · exact .inl hsame
    · exact .inr ⟨_, hrec⟩
    · exact .inr ⟨_, hrec⟩
  all_goals exact ⟨.inl rfl, rfl⟩

/-- Settles O53: of the transitions only the hand-off writes Ready, and the engine reset writes NoCard. -/
theorem readyOnlyByHandoff : Obligations.ReadyOnlyByHandoff := by
  intro s t h ht hs
  obtain ⟨p, hrun | ⟨-, rfl⟩ | ⟨-, -, b, rfl⟩ | ⟨-, rfl⟩ | rfl⟩ := step_next h
  · obtain hready | hpc := (engineEvent_next hrun).sess_ready ht
    · exact absurd hready hs
    · exact hpc
  · exact absurd ht hs
  · exact absurd ht hs
  · exact absurd ht hs
  · cases ht

/-- Settles O54: a step that ends in a failure is a transition from before the data phase, which writes no memory. -/
theorem failedReadLeavesTheBuffer : Obligations.FailedReadLeavesTheBuffer := by
  intro s t k h ht
  obtain ⟨p, hrun | ⟨-, rfl⟩ | ⟨-, -, b, rfl⟩ | ⟨hidle, rfl⟩ | rfl⟩ := step_next h
  · have hT := engineEvent_next hrun
    obtain ⟨hdata, hwrite, hcrc⟩ := hT.not_data_of_fail ht
    refine ⟨hdata, hwrite, hcrc, fun a => ?_⟩
    obtain hsame | ⟨i, v, hw, -⟩ := hT.mem_cases
    · rw [hsame]
    · exact absurd hw (hwrite i v)
  · cases ht
  · cases ht
  · exact absurd (hidle.symm.trans ht) (by simp)
  · cases ht

/-- Settles O55: no transition writes InitializationFailed into `err` (rule R231), and the engine reset clears it. -/
theorem initializationFailedNeverProduced : Obligations.InitializationFailedNeverProduced := by
  intro s t h ht
  obtain ⟨p, hrun | ⟨-, rfl⟩ | ⟨-, -, b, rfl⟩ | ⟨-, rfl⟩ | rfl⟩ := step_next h
  · obtain hsame | ⟨-, hnone, -⟩ | ⟨k, -, herr, hk⟩ := (engineEvent_next hrun).err_cases
    · exact hsame.symm.trans ht
    · cases hnone.symm.trans ht
    · exact absurd (Option.some.inj (herr.symm.trans ht)) hk
  · exact ht
  · exact ht
  · exact ht
  · cases ht

end Sys2Proof.Machine
end

section
/-! The command encoder (41_command_encoder.md): the ready-wait and the frame bytes, as steps of the command. -/

namespace Sys2Proof.Machine

variable {s : State} {rx : Byte}

theorem exec_command_sReady {c : Cmd} {n : Nat} (h : s.pc = .sReady c n) (arg : Word32) (crc : BitVec 7) :
    exec (Instr.command c arg crc) s = readyWait c n s := by
  rw [exec_command_eq_phaseEvent (by rw [h]; rfl), phaseEvent_sReady arg crc h]

theorem exec_command_sFrame {c : Cmd} {j : Fin 6} (h : s.pc = .sFrame c j) (arg : Word32) (crc : BitVec 7) :
    exec (Instr.command c arg crc) s = sendFrameByte c arg crc j s := by
  rw [exec_command_eq_phaseEvent (by rw [h]; rfl), phaseEvent_sFrame arg crc h]

/-! ### What one exchange of the ready-wait does (rule R121) -/

theorem readyWait_ends (hrx : s.rx? = some 0xFF#8) (c : Cmd) (n : Nat) :
    readyWait c n s = .next ((s.afterXfer filler 0xFF#8).goto (.sFrame c 0)) := by
  rw [readyWait, xfer_of_some hrx, if_pos rfl]

theorem readyWait_goes_on (hrx : s.rx? = some rx) (hv : rx ≠ 0xFF#8) (c : Cmd) {n : Nat}
    (hlim : ∀ l, s.cfg.readyLimit = some l → n + 1 < l) :
    readyWait c n s = .next ((s.afterXfer filler rx).goto (.sReady c (n + 1))) := by
  have hbelow : limitReached s.cfg.readyLimit (n + 1) = false := limitReached_eq_false.mpr hlim
  rw [readyWait, xfer_of_some hrx, if_neg hv, State.afterXfer_cfg, hbelow]
  rfl

theorem readyWait_fails (hrx : s.rx? = some rx) (hv : rx ≠ 0xFF#8) (c : Cmd) {n l : Nat}
    (hlim : s.cfg.readyLimit = some l) (hl : l ≤ n + 1) :
    readyWait c n s = .next ((s.afterXfer filler rx).raiseFail (operationOf c) .responseTimeout) := by
  have hreached : limitReached s.cfg.readyLimit (n + 1) = true := limitReached_eq_true.mpr ⟨l, hlim, hl⟩
  rw [readyWait, xfer_of_some hrx, if_neg hv, State.afterXfer_cfg, hreached]
  rfl

/-! ### What one frame byte does (rule R122) -/

theorem sendFrameByte_goes_on (hrx : s.rx? = some rx) (c : Cmd) (arg : Word32) (crc : BitVec 7) (j : Fin 5) :
    sendFrameByte c arg crc j.castSucc s
      = .next ((s.afterXfer (frameByte c arg crc j.castSucc) rx).goto (.sFrame c j.succ)) := by
  have hmore : j.castSucc.val + 1 < 6 := Nat.succ_lt_succ j.isLt
  rw [sendFrameByte, xfer_of_some hrx, dif_pos hmore]
  rfl

theorem sendFrameByte_last (hrx : s.rx? = some rx) (c : Cmd) (arg : Word32) (crc : BitVec 7) :
    sendFrameByte c arg crc 5 s = .next ((s.afterXfer (frameByte c arg crc 5) rx).goto (.pR1 c 0)) := by
  rw [sendFrameByte, xfer_of_some hrx, dif_neg (by decide)]

/-! ### The obligations -/

/-- Settles O19: the three outcomes of one exchange; the bound fails INIT's session and keeps READ_BLOCK's (rules R182
and R216). -/
theorem readyWaitExchange : Obligations.ReadyWaitExchange := by
  intro c arg crc s n rx hpc hrx
  rw [exec_command_sReady hpc]
  refine ⟨?_, fun hv hlim => readyWait_goes_on hrx hv c hlim, fun l hv hlim hl => ?_⟩
  · rintro rfl
    exact readyWait_ends hrx c n
  · rw [readyWait_fails hrx hv c hlim hl]
    cases c <;> rfl

/-- Settles O20: the byte of the word in wire order is the byte the encoder forms, which O3 says. -/
theorem frameByteExchange : Obligations.FrameByteExchange := by
  intro c arg crc s rx tx hrx
  have hbyte : ∀ j : Fin 6, (wireBytes (frameWord c.index arg crc))[j.val]? = some tx → frameByte c arg crc j = tx :=
    fun j htx => Option.some.inj ((wireBytesAreTheFrameBytes c arg crc j).symm.trans htx)
  constructor
  · intro j hpc htx
    rw [exec_command_sFrame hpc, sendFrameByte_goes_on hrx, hbyte j.castSucc htx]
    rfl
  · intro hpc htx
    rw [exec_command_sFrame hpc, sendFrameByte_last hrx, hbyte 5 htx]
    rfl

/-- Settles O21: `SEND` latches the argument and enters the ready-wait, in which the command is in progress (rule
R120). -/
theorem commandStartsBySend : Obligations.CommandStartsBySend := by
  intro c arg crc s hruns
  have hsent : (s.send c arg).pc.runs c = true := decide_eq_true rfl
  calc exec (Instr.command c arg crc) s
      = phaseEvent arg crc (s.send c arg) := by rw [exec_command, commandStep, hruns]; rfl
    _ = commandStep c arg crc (s.send c arg) := (commandStep_of_runs hsent arg crc).symm
    _ = exec (Instr.command c arg crc) (s.send c arg) := (exec_command c arg crc _).symm

end Sys2Proof.Machine
end

section
/-! The initialization sequencer (43_init_sequencer.md): its own phases as steps of INIT, and the checks of its
commands. -/

namespace Sys2Proof.Machine

variable {s : State} {rx : Byte}

/-- In its own phases INIT performs the phase's event (rule R12). -/
theorem exec_init_eq_phaseEvent {p : Phase} (hpc : s.pc = p) (hop : p.operation? = some .init) (addr : Word32) :
    exec (.init addr) s = phaseEvent s.cmdArg s.frameCrc s :=
  exec_init_running (by rw [hpc]; exact hop) addr

/-! ### The sequencer's own exchanges and its detect sample -/

theorem State.present_cons {b : Bool} {rest : List Bool} (h : s.detect = b :: rest) : s.present = b := by
  rw [State.present, h]

theorem detectCard_of_cons {b : Bool} {rest : List Bool} (h : s.detect = b :: rest) :
    detectCard s = .next (if b then (s.afterDetect b).goto .iGpio else (s.afterDetect b).raiseFail .init .cardAbsent) := by
  rw [detectCard, State.present_cons h]

theorem dummyByte_goes_on (hrx : s.rx? = some rx) {j : Nat} (hj : j + 1 < s.cfg.nDummyBytes) :
    dummyByte j s = .next ((s.afterXfer filler rx).goto (.iDummy (j + 1))) := by
  rw [dummyByte, xfer_of_some hrx, State.afterXfer_cfg, if_pos hj]

theorem dummyByte_last (hrx : s.rx? = some rx) {j : Nat} (hj : s.cfg.nDummyBytes ≤ j + 1) :
    dummyByte j s = .next ((s.afterXfer filler rx).goto .iDelay) := by
  rw [dummyByte, xfer_of_some hrx, State.afterXfer_cfg, if_neg (Nat.not_lt.mpr hj)]

theorem flushByte_goes_on (hrx : s.rx? = some rx) (j : Fin 2) :
    flushByte j.castSucc s = .next ((s.afterXfer filler rx).goto (.iFlush j.succ)) := by
  have hmore : j.castSucc.val + 1 < 3 := Nat.succ_lt_succ j.isLt
  rw [flushByte, xfer_of_some hrx, dif_pos hmore]
  rfl

theorem flushByte_last (hrx : s.rx? = some rx) :
    flushByte 2 s = .next ((s.afterXfer filler rx).sendTemplate .cmd0) := by
  rw [flushByte, xfer_of_some hrx, dif_neg (by decide)]

/-! ### The check of each command -/

theorem acmd41RoundEnd_exits {v : Byte} (hv : v.getLsbD 0 = false) :
    acmd41RoundEnd v s = { s with it := s.it + 1, sess := .initialized }.sendTemplate .cmd58 := if_pos hv

theorem acmd41RoundEnd_goes_on {v : Byte} (hv : v.getLsbD 0 = true)
    (hlim : ∀ l, s.cfg.acmd41Limit = some l → s.it + 1 < l) :
    acmd41RoundEnd v s = { s with it := s.it + 1 }.sendTemplate .cmd55 := by
  have hbelow : limitReached s.cfg.acmd41Limit (s.it + 1) = false := limitReached_eq_false.mpr hlim
  rw [acmd41RoundEnd, idleFlag, hv, hbelow]
  rfl

theorem acmd41RoundEnd_fails {v : Byte} (hv : v.getLsbD 0 = true) {l : Nat} (hlim : s.cfg.acmd41Limit = some l)
    (hl : l ≤ s.it + 1) : acmd41RoundEnd v s = { s with it := s.it + 1 }.raiseFail .init .responseTimeout := by
  have hreached : limitReached s.cfg.acmd41Limit (s.it + 1) = true := limitReached_eq_true.mpr ⟨l, hlim, hl⟩
  rw [acmd41RoundEnd, idleFlag, hv, hreached]
  rfl

theorem checkVerify_of_some {v : Byte} (h : s.r3.b4 = some v) :
    checkVerify s = .next (if v = checkPattern then enterLoop { s with sess := .verified }
      else s.raiseFail .init .verificationFailed) := by
  rw [checkVerify, R3.get, h]

theorem checkOcr_of_some {v0 v1 : Byte} (h0 : s.r3.b0 = some v0) (h1 : s.r3.b1 = some v1) :
    checkOcr s = .next (if v0 = 0x00#8 ∧ ccsFlag v1 = true then s.goto .iFast
      else s.raiseFail .init .capacityCheckFailed) := by
  rw [checkOcr, R3.get, R3.get, h0, h1]

/-! ### The obligations -/

/-- Settles O27: INIT is accepted in `Idle` without a look at the session (rule R185). -/
theorem initAcceptedInIdle : Obligations.InitAcceptedInIdle := fun _ addr hpc => exec_init_idle hpc addr

/-- Settles O28: the sample is the script's next answer, which alone decides (rule R171). -/
theorem cardDetectSample : Obligations.CardDetectSample := by
  intro s addr rest hpc
  rw [exec_init_eq_phaseEvent hpc rfl, phaseEvent_iDetect _ _ hpc]
  constructor
  · intro hdetect
    rw [detectCard_of_cons hdetect, State.afterDetect, hdetect]
    rfl
  · intro hdetect
    rw [detectCard_of_cons hdetect, State.afterDetect, hdetect]
    rfl

/-- Settles O29: each phase's event and the next phase (rule R172). -/
theorem powerOnEvents : Obligations.PowerOnEvents := by
  intro s addr
  refine ⟨fun hpc => ?_, fun hpc => ?_, fun hpc => ?_, fun j rx hpc hrx hj => ?_, fun j rx hpc hrx hj => ?_,
    fun hpc => ?_, fun hpc => ?_⟩ <;> rw [exec_init_eq_phaseEvent hpc rfl]
  · exact phaseEvent_iGpio _ _ hpc
  · exact phaseEvent_iSlow _ _ hpc
  · exact phaseEvent_iCsHigh _ _ hpc
  · exact (phaseEvent_iDummy _ _ hpc).trans (dummyByte_goes_on hrx hj)
  · exact (phaseEvent_iDummy _ _ hpc).trans (dummyByte_last hrx hj)
  · exact phaseEvent_iDelay _ _ hpc
  · exact phaseEvent_iCsLow _ _ hpc

/-- Settles O30: the three exchanges of rule R173, and the flush's part of the invariant. -/
theorem flushThenCmd0 : Obligations.FlushThenCmd0 := by
  intro s addr rx hrx
  have hflush : ∀ {j}, s.pc = .iFlush j → exec (.init addr) s = flushByte j s := fun hpc =>
    (exec_init_eq_phaseEvent hpc rfl addr).trans (phaseEvent_iFlush _ _ hpc)
  refine ⟨fun hpc => (hflush hpc).trans (flushByte_goes_on hrx 0), fun hpc => (hflush hpc).trans (flushByte_goes_on hrx 1),
    fun hpc => (hflush hpc).trans (flushByte_last hrx), fun j hpc hinv => ?_⟩
  obtain ⟨-, -, hmanual, hlow⟩ := hinv.phase_at hpc
  exact ⟨hmanual, hlow⟩

/-- The end of a command's R1 poll, from the clause of O23 that ends it. -/
theorem exec_command_poll_ends {c : Cmd} {k : Fin 8} {v : Byte} (hpc : s.pc = .pR1 c k) (hrx : s.rx? = some v)
    (hend : v.getLsbD 7 = false ∨ k = 7) (arg : Word32) (crc : BitVec 7) :
    exec (Instr.command c arg crc) s = .next (endR1 c v (s.afterXfer filler v)) :=
  (exec_command_pR1 hpc arg crc).trans (pollR1_ends hrx c hend)

/-- Settles O31: `end_r1` of CMD0 is `check_reset` after the two registers (rules R151 and R174). -/
theorem resetCheck : Obligations.ResetCheck := by
  intro arg crc s k v hpc hrx hend
  exact exec_command_poll_ends hpc hrx hend arg crc

/-- Settles O32: the byte `check_verify` reads is the one just received (rule R175). -/
theorem verifyCheck : Obligations.VerifyCheck := by
  intro arg crc s v hpc hrx
  have hcheck : exec (.cmd8 arg crc) s = checkVerify { s.afterXfer filler v with r3 := s.r3.set 4 v } :=
    (exec_command_pR3 hpc arg crc).trans (readOcr_last hrx .cmd8)
  exact hcheck.trans (checkVerify_of_some rfl)

/-- Settles O33: `end_r1` of CMD55 sends ACMD41 whatever the byte (rule R177). -/
theorem appCmdThenAcmd41 : Obligations.AppCmdThenAcmd41 := by
  intro arg crc s k v hpc hrx hend
  exact exec_command_poll_ends hpc hrx hend arg crc

/-- Settles O35: the two bytes `check_ocr` reads are those the read wrote before byte 4 (rule R179). -/
theorem capacityCheck : Obligations.CapacityCheck := by
  intro arg crc s v v0 v1 hpc hrx h0 h1
  have hcheck : exec (.cmd58 arg crc) s = checkOcr { s.afterXfer filler v with r3 := s.r3.set 4 v } :=
    (exec_command_pR3 hpc arg crc).trans (readOcr_last hrx .cmd58)
  exact hcheck.trans (checkOcr_of_some h0 h1)

/-- Settles O36: the two phases of rules R180 and R181. -/
theorem readyEvents : Obligations.ReadyEvents := by
  intro s addr
  exact ⟨fun hpc => (exec_init_eq_phaseEvent hpc rfl addr).trans (phaseEvent_iFast _ _ hpc),
    fun hpc => (exec_init_eq_phaseEvent hpc rfl addr).trans (phaseEvent_iHandoff _ _ hpc)⟩

end Sys2Proof.Machine

namespace Sys2Proof

/-- Settles O34: the exit test comes first, then the bound, else another round (rule R177). -/
theorem acmd41RoundEnd : Obligations.Acmd41RoundEnd := by
  intro arg crc s k v hpc hrx hend
  have hround : Machine.exec (.acmd41 arg crc) s
      = .next (Machine.acmd41RoundEnd v ((s.afterXfer filler v).setR1 v)) :=
    Machine.exec_command_poll_ends hpc hrx hend arg crc
  rw [hround]
  refine ⟨fun hv => ?_, fun hv hlim => ?_, fun l hv hlim hl => ?_⟩
  · rw [Machine.acmd41RoundEnd_exits hv]
    rfl
  · rw [Machine.acmd41RoundEnd_goes_on (s := (s.afterXfer filler v).setR1 v) hv hlim]
    rfl
  · rw [Machine.acmd41RoundEnd_fails (s := (s.afterXfer filler v).setR1 v) hv hlim hl]
    rfl

end Sys2Proof
end

section
/-! The block reader (44_block_reader.md): READ_BLOCK accepted, and the steps of its token wait, data phase and block
CRC. -/

namespace Sys2Proof.Machine

variable {s : State} {rx : Byte}

/-- In the phases after CMD17's R1, READ_BLOCK and CMD17 both perform the phase's event (rules R12 and R141). -/
theorem exec_read_eq_phaseEvent {i : Instr} (hi : (∃ a, i = .readBlock a) ∨ ∃ a crc, i = .cmd17 a crc) {p : Phase}
    (hpc : s.pc = p) (hruns : p.runs .cmd17 = true) : ∃ arg crc, exec i s = phaseEvent arg crc s := by
  subst hpc
  obtain ⟨addr, rfl⟩ | ⟨arg, crc, rfl⟩ := hi
  · exact ⟨_, _, exec_readBlock_running (Phase.operation?_of_runs hruns) addr⟩
  · exact ⟨arg, crc, commandStep_of_runs hruns arg crc⟩

/-- An address that fits in `ADDR_BITS` bits is the argument unchanged (rules R84 and R219). -/
theorem addressArg_of_lt {addrBits : Nat} {addr : Word32} (h : addr.toNat < 2 ^ addrBits) :
    addressArg addrBits addr = addr := by
  rw [addressArg, Nat.mod_eq_of_lt h, BitVec.ofNat_toNat, BitVec.setWidth_eq]

/-! ### What one exchange of the token wait and of the block CRC does (rules R155 and R214) -/

theorem tokenWait_ends (hrx : s.rx? = some dataToken) (n : Nat) :
    tokenWait n s = .next ((s.afterXfer filler dataToken).goto (.bData 0)) := by
  rw [tokenWait, xfer_of_some hrx, if_pos rfl]

theorem tokenWait_goes_on (hrx : s.rx? = some rx) (hv : rx ≠ dataToken) {n : Nat}
    (hlim : ∀ l, s.cfg.tokenLimit = some l → n + 1 < l) :
    tokenWait n s = .next ((s.afterXfer filler rx).goto (.tToken (n + 1))) := by
  have hbelow : limitReached s.cfg.tokenLimit (n + 1) = false := limitReached_eq_false.mpr hlim
  rw [tokenWait, xfer_of_some hrx, if_neg hv, State.afterXfer_cfg, hbelow]
  rfl

theorem tokenWait_fails (hrx : s.rx? = some rx) (hv : rx ≠ dataToken) {n l : Nat}
    (hlim : s.cfg.tokenLimit = some l) (hl : l ≤ n + 1) :
    tokenWait n s = .next ((s.afterXfer filler rx).raiseFail .readBlock .readFailed) := by
  have hreached : limitReached s.cfg.tokenLimit (n + 1) = true := limitReached_eq_true.mpr ⟨l, hlim, hl⟩
  rw [tokenWait, xfer_of_some hrx, if_neg hv, State.afterXfer_cfg, hreached]
  rfl

theorem crcByte_first (hrx : s.rx? = some rx) : crcByte 0 s = .next ((s.afterXfer filler rx).goto (.bCrc 1)) := by
  rw [crcByte, xfer_of_some hrx, dif_pos (by decide)]
  rfl

theorem crcByte_second (hrx : s.rx? = some rx) : crcByte 1 s = .next (s.afterXfer filler rx).succeed := by
  rw [crcByte, xfer_of_some hrx, dif_neg (by decide)]

/-! ### The obligations -/

/-- Settles O26: the three outcomes of one exchange of the token wait. -/
theorem tokenWaitExchange : Obligations.TokenWaitExchange := by
  intro i s n rx hi hpc hrx
  obtain ⟨arg, crc, hexec⟩ := exec_read_eq_phaseEvent hi hpc rfl
  rw [hexec, phaseEvent_tToken _ _ hpc]
  refine ⟨?_, fun hv hlim => tokenWait_goes_on hrx hv hlim, fun l hv hlim hl => tokenWait_fails hrx hv hlim hl⟩
  rintro rfl
  exact tokenWait_ends hrx n

/-- Settles O37: a Ready READ_BLOCK is `SEND(CMD17, addr)`, and an address that fits is sent unchanged. -/
theorem readBlockAcceptedWhenReady : Obligations.ReadBlockAcceptedWhenReady := by
  intro s addr hpc hready
  have hfits : addr.toNat < 2 ^ s.cfg.addrBits →
      exec (.readBlock addr) s = .next { s with cmdArg := addr, pc := .sReady .cmd17 0 } := by
    intro hlt
    rw [exec_readBlock_idle hpc, if_pos hready, addressArg_of_lt hlt]
    rfl
  exact ⟨fun h32 => hfits (by rw [h32]; exact addr.isLt), hfits⟩

/-- Settles O38: the session is what `Idle` tests (rule R240). -/
theorem readBlockNotReadyFaults : Obligations.ReadBlockNotReadyFaults := by
  intro s addr hpc hready
  rw [exec_readBlock_idle hpc, if_neg hready]

/-- Settles O39: `end_r1` of CMD17 is `check_read_r1` after the two registers (rules R151 and R211). -/
theorem readCommandCheck : Obligations.ReadCommandCheck := by
  intro arg crc s k v hpc hrx hend
  exact exec_command_poll_ends hpc hrx hend arg crc

/-- Settles O41: the exchange, and the write that goes on with the next byte or the block CRC (rule R213). -/
theorem dataPhaseCompletes : Obligations.DataPhaseCompletes := by
  intro j s i hj
  constructor
  · intro rx hpc hrx
    obtain ⟨arg, crc, hexec⟩ := exec_read_eq_phaseEvent hj hpc rfl
    rw [hexec, phaseEvent_bData _ _ hpc, dataByte, xfer_of_some hrx]
    rfl
  · intro v hpc
    obtain ⟨arg, crc, hexec⟩ := exec_read_eq_phaseEvent hj hpc rfl
    rw [hexec, phaseEvent_bWrite _ _ hpc, storeByte]
    by_cases hi : i.val < 511
    · rw [dif_pos hi, dif_pos (Nat.succ_lt_succ hi)]
      rfl
    · rw [dif_neg hi, dif_neg (by omega)]
      rfl

/-- Settles O42: the two exchanges of rule R214. -/
theorem blockCrcDiscarded : Obligations.BlockCrcDiscarded := by
  intro s addr rx hrx
  have hcrc : ∀ {j}, s.pc = .bCrc j → exec (.readBlock addr) s = crcByte j s := fun hpc =>
    (exec_readBlock_running (by rw [hpc]; rfl) addr).trans (phaseEvent_bCrc _ _ hpc)
  exact ⟨fun hpc => (hcrc hpc).trans (crcByte_first hrx), fun hpc => (hcrc hpc).trans (crcByte_second hrx)⟩

end Sys2Proof.Machine
end

section
/-! Completion, and the stuck transport (60_exceptions.md). -/

namespace Sys2Proof.Machine

variable {s : State}

theorem Result.isOk_eq_decide (res : Result) : res.isOk = decide (res = .ok) := by cases res <;> rfl

/-- Settles O46: in `Done` the step and both requests are the `COMPLETE` of rule R233, with the host's view in `Idle`. -/
theorem completeReturnsToIdle : Obligations.CompleteReturnsToIdle := by
  intro s addr res hpc
  have hinit : exec (.init addr) s = .next (s.complete res) :=
    (exec_init_done hpc addr).trans (phaseEvent_done _ _ hpc)
  have hread : exec (.readBlock addr) s = .next (s.complete res) :=
    (exec_readBlock_done hpc addr).trans (phaseEvent_done _ _ hpc)
  refine ⟨(s.goto .idle).view, rfl, rfl, rfl, rfl, rfl, rfl, rfl, rfl, rfl, ?_, hread.trans hinit.symm,
    fun hport => (step_done hport hpc).trans hinit.symm⟩
  rw [hinit, ← Result.isOk_eq_decide]
  rfl

/-- Settles O47: each of the nine kinds of phase does nothing before its exchange (rule R111). -/
theorem uncompletedExchangeIsStuck : Obligations.UncompletedExchangeIsStuck := by
  intro s hport hrx hphase
  rw [step_of_port_nil hport]
  have hx : s.pc.exchanges = true := by
    obtain ⟨j, h⟩ | ⟨j, h⟩ | ⟨c, n, h⟩ | ⟨c, j, h⟩ | ⟨c, k, h⟩ | ⟨c, i, h⟩ | ⟨n, h⟩ | ⟨i, h⟩ | ⟨j, h⟩ := hphase
    all_goals rw [h]; rfl
  obtain ⟨tx, k, hxfer, -⟩ := phaseEvent_exchange hx s.cmdArg s.frameCrc
  exact hxfer.trans (xfer_of_none hrx tx k)

end Sys2Proof.Machine
end

section
/-! Runs of the machine (rule R5): how runs compose, and one step of each phase of a READ_BLOCK as a step of the
machine. -/

namespace Sys2Proof.Machine

variable {s t u : State}

/-! ### Runs compose -/

/-- A machine's run of `k + 1` steps is its step and then a run of `k`. -/
theorem coreRun_succ {M : Host.Core} {k : Nat} {s t : M.State} {o : Host.Outcome M.State M.Fault M.Refusal}
    (h : M.step s = .next t) (hthen : M.run k t = o) : M.run (k + 1) s = o := by
  unfold Host.Core.run
  rw [h]
  exact hthen

/-- A machine's run of `a` steps and then one of `b` is a run of `a + b`. -/
theorem coreRun_add {M : Host.Core} {a b : Nat} {s t : M.State} {o : Host.Outcome M.State M.Fault M.Refusal}
    (hfirst : M.run a s = .next t) (hthen : M.run b t = o) : M.run (a + b) s = o := by
  induction a generalizing s with
  | zero =>
    cases hfirst
    rwa [Nat.zero_add]
  | succ a ih =>
    rw [Nat.succ_add]
    unfold Host.Core.run at hfirst
    split at hfirst
    · rename_i u hu
      exact coreRun_succ hu (ih hfirst)
    · cases hfirst
    · cases hfirst

theorem run_succ {k : Nat} {o : Host.Outcome State Fault Refusal} (h : step s = .next t)
    (hthen : Host.Core.run core k t = o) : Host.Core.run core (k + 1) s = o :=
  coreRun_succ (M := core) h hthen

theorem run_one (h : step s = .next t) : Host.Core.run core 1 s = .next t := run_succ h rfl

/-- `s` after a run of exchanges and buffer writes: no register but the phase has changed (rules R11 and R102). -/
def State.ranTo (p : Phase) (rest : List Answer) (mem : Memory) (ix : Nat) (hist : List Event) (s : State) : State :=
  { s with pc := p, card := rest, mem := mem, oracleIx := ix, history := hist }

/-- A run of `k` steps from `s` to the phase `p`, with these answers left and this memory, that changes no other
register; what it records is left open. -/
def RunsTo (k : Nat) (s : State) (p : Phase) (rest : List Answer) (mem : Memory) : Prop :=
  ∃ ix hist, Host.Core.run core k s = .next (s.ranTo p rest mem ix hist)

theorem RunsTo.trans {a b : Nat} {p q : Phase} {rest rest' : List Answer} {mem mem' : Memory}
    (hfirst : RunsTo a s p rest mem) (hthen : ∀ ix hist, RunsTo b (s.ranTo p rest mem ix hist) q rest' mem') :
    RunsTo (a + b) s q rest' mem' := by
  obtain ⟨ix, hist, h⟩ := hfirst
  obtain ⟨ix', hist', h'⟩ := hthen ix hist
  exact ⟨ix', hist', coreRun_add h h'⟩

theorem RunsTo.refl (s : State) : RunsTo 0 s s.pc s.card s.mem := ⟨s.oracleIx, s.history, rfl⟩

/-- One exchange that only moves on to another phase. -/
theorem RunsTo.of_exchange {tx rx : Byte} {p : Phase} {rest : List Answer} (hcard : s.card = .byte rx :: rest)
    (h : step s = .next ((s.afterXfer tx rx).goto p)) : RunsTo 1 s p rest s.mem := by
  refine ⟨s.oracleIx + 1, .xfer tx rx s.profile s.csMode s.csLevel :: s.history, run_one ?_⟩
  rw [h, State.afterXfer, hcard]
  rfl

/-- A wait: where every byte of `bs` moves the phase from one count to the next, the whole of `bs` moves it by
`bs.length`. -/
theorem RunsTo.of_wait {P : Nat → Phase} {cfg : Config} {tx : Byte} {bs : List Byte} {rest : List Answer} {n m : Nat}
    (hgo : ∀ (u : State) (n : Nat), ∀ b ∈ bs, u.port = [] → u.cfg = cfg → u.pc = P n → n < m → u.rx? = some b →
      step u = .next ((u.afterXfer tx b).goto (P (n + 1))))
    (hport : s.port = []) (hcfg : s.cfg = cfg) (hpc : s.pc = P n) (hcard : s.card = bs.map .byte ++ rest)
    (hm : n + bs.length ≤ m) : RunsTo bs.length s (P (n + bs.length)) rest s.mem := by
  induction bs generalizing s n with
  | nil =>
    obtain rfl : s.card = rest := hcard
    have hrefl := RunsTo.refl s
    rw [hpc] at hrefl
    exact hrefl
  | cons b bs ih =>
    rw [List.length_cons] at hm
    have hfirst : RunsTo 1 s (P (n + 1)) (bs.map .byte ++ rest) s.mem :=
      .of_exchange hcard (hgo s n b List.mem_cons_self hport hcfg hpc (by omega) (rx?_byte hcard))
    have hrest := hfirst.trans fun ix hist =>
      ih (s := s.ranTo (P (n + 1)) (bs.map .byte ++ rest) s.mem ix hist) (n := n + 1)
        (fun u n b hb => hgo u n b (List.mem_cons_of_mem _ hb)) hport hcfg rfl rfl (by omega)
    rw [List.length_cons, Nat.add_comm bs.length 1, ← Nat.add_assoc]
    exact hrest

/-! ### One step in each phase -/

theorem step_sReady {c : Cmd} {n : Nat} (hport : s.port = []) (hpc : s.pc = .sReady c n) : step s = readyWait c n s := by
  rw [step_of_port_nil hport, engineEvent, phaseEvent_sReady _ _ hpc]

theorem step_sFrame {c : Cmd} {j : Fin 6} (hport : s.port = []) (hpc : s.pc = .sFrame c j) :
    step s = sendFrameByte c s.cmdArg (s.cfg.templateCrc c) j s := by
  have hcrc : s.frameCrc = s.cfg.templateCrc c := by rw [State.frameCrc, hpc]; rfl
  rw [step_of_port_nil hport, engineEvent, phaseEvent_sFrame _ _ hpc, hcrc]

theorem step_pR1 {c : Cmd} {k : Fin 8} (hport : s.port = []) (hpc : s.pc = .pR1 c k) : step s = pollR1 c k s := by
  rw [step_of_port_nil hport, engineEvent, phaseEvent_pR1 _ _ hpc]

theorem step_tToken {n : Nat} (hport : s.port = []) (hpc : s.pc = .tToken n) : step s = tokenWait n s := by
  rw [step_of_port_nil hport, engineEvent, phaseEvent_tToken _ _ hpc]

theorem step_bCrc {j : Fin 2} (hport : s.port = []) (hpc : s.pc = .bCrc j) : step s = crcByte j s := by
  rw [step_of_port_nil hport, engineEvent, phaseEvent_bCrc _ _ hpc]

/-! ### The ready-wait and the frame -/

/-- The ready-wait with any busy bytes the bound allows, and the `0xFF` that ends it (rule R121). -/
theorem runsTo_readyWait {c : Cmd} {busy : List Byte} {rest : List Answer} (hport : s.port = [])
    (hpc : s.pc = .sReady c 0) (hbusy : ∀ b ∈ busy, b ≠ 0xFF#8)
    (hlim : ∀ l, s.cfg.readyLimit = some l → busy.length < l)
    (hcard : s.card = busy.map .byte ++ .byte 0xFF#8 :: rest) :
    RunsTo (busy.length + 1) s (.sFrame c 0) rest s.mem := by
  have hwait : RunsTo busy.length s (.sReady c (0 + busy.length)) (.byte 0xFF#8 :: rest) s.mem := by
    refine RunsTo.of_wait (tx := filler) (P := .sReady c) (m := busy.length) ?_ hport rfl hpc hcard (by omega)
    intro u n b hb huport hucfg hupc hn hrx
    rw [step_sReady huport hupc]
    refine readyWait_goes_on hrx (hbusy b hb) c fun l hl => ?_
    rw [hucfg] at hl
    have := hlim l hl
    omega
  exact hwait.trans fun ix hist => .of_exchange rfl
    ((step_sReady (s := s.ranTo _ _ _ ix hist) hport rfl).trans (readyWait_ends (rx?_byte rfl) c _))

/-- A frame byte before the last, as a step of the machine (rule R122). -/
theorem step_frame_goes_on {c : Cmd} {r : Byte} {rest : List Answer} (hport : s.port = []) (j : Fin 5)
    (hpc : s.pc = .sFrame c j.castSucc) (hcard : s.card = .byte r :: rest) :
    step s = .next (s.ranTo (.sFrame c j.succ) rest s.mem (s.oracleIx + 1)
      (.xfer (frameByte c s.cmdArg (s.cfg.templateCrc c) j.castSucc) r s.profile s.csMode s.csLevel :: s.history)) := by
  rw [step_sFrame hport hpc, sendFrameByte_goes_on (rx?_byte hcard), State.afterXfer, hcard]
  rfl

/-- The last frame byte, as a step of the machine (rule R122). -/
theorem step_frame_last {c : Cmd} {r : Byte} {rest : List Answer} (hport : s.port = []) (hpc : s.pc = .sFrame c 5)
    (hcard : s.card = .byte r :: rest) :
    step s = .next (s.ranTo (.pR1 c 0) rest s.mem (s.oracleIx + 1)
      (.xfer (frameByte c s.cmdArg (s.cfg.templateCrc c) 5) r s.profile s.csMode s.csLevel :: s.history)) := by
  rw [step_sFrame hport hpc, sendFrameByte_last (rx?_byte hcard), State.afterXfer, hcard]
  rfl

/-- Settles O22: six steps, each of which sends its byte of the frame and discards the answer (rules R122 and R123). -/
theorem sixStepsSendTheFrame : Obligations.SixStepsSendTheFrame := by
  intro s c r0 r1 r2 r3 r4 r5 b0 b1 b2 b3 b4 b5 rest hpc hport hcard hwire
  rw [wireBytes_frameWord] at hwire
  cases hwire
  refine run_succ (step_frame_goes_on hport 0 hpc hcard) ?_
  refine run_succ (step_frame_goes_on (by exact hport) 1 rfl rfl) ?_
  refine run_succ (step_frame_goes_on (by exact hport) 2 rfl rfl) ?_
  refine run_succ (step_frame_goes_on (by exact hport) 3 rfl rfl) ?_
  refine run_succ (step_frame_goes_on (by exact hport) 4 rfl rfl) ?_
  exact run_succ (step_frame_last (by exact hport) rfl rfl) rfl

/-- The six frame bytes, whatever the six answers. -/
theorem runsTo_frame {c : Cmd} {frame : List Byte} {rest : List Answer} (hport : s.port = [])
    (hpc : s.pc = .sFrame c 0) (hlen : frame.length = 6) (hcard : s.card = frame.map .byte ++ rest) :
    RunsTo 6 s (.pR1 c 0) rest s.mem := by
  match frame, hlen with
  | [r0, r1, r2, r3, r4, r5], _ =>
    exact ⟨_, _, sixStepsSendTheFrame s c r0 r1 r2 r3 r4 r5 _ _ _ _ _ _ rest hpc hport hcard
      (wireBytes_frameWord c s.cmdArg (s.cfg.templateCrc c))⟩

/-! ### The R1 poll -/

/-- Fewer than 8 invalid bytes are skipped (rule R150). -/
theorem runsTo_poll {c : Cmd} {skipped : List Byte} {rest : List Answer} (hport : s.port = []) (hpc : s.pc = .pR1 c 0)
    (hskip : ∀ b ∈ skipped, b.getLsbD 7 = true) (hlen : skipped.length < 8)
    (hcard : s.card = skipped.map .byte ++ rest) :
    RunsTo skipped.length s (.pR1 c ⟨skipped.length, hlen⟩) rest s.mem := by
  have hwait : RunsTo skipped.length s (.pR1 c (Fin.ofNat 8 (0 + skipped.length))) rest s.mem := by
    refine RunsTo.of_wait (tx := filler) (P := fun n => .pR1 c (Fin.ofNat 8 n)) (m := skipped.length) ?_ hport rfl hpc hcard (by omega)
    intro u n b hb huport _ hupc hn hrx
    have hk : n < 7 := by omega
    have hhere : Fin.ofNat 8 n = (⟨n, hk⟩ : Fin 7).castSucc := Fin.ext (Nat.mod_eq_of_lt (by omega))
    have hnext : Fin.ofNat 8 (n + 1) = (⟨n, hk⟩ : Fin 7).succ := Fin.ext (Nat.mod_eq_of_lt (by omega))
    rw [hhere] at hupc
    rw [step_pR1 huport hupc, hnext]
    exact pollR1_goes_on hrx c ⟨n, hk⟩ (hskip b hb)
  have hend : Fin.ofNat 8 (0 + skipped.length) = ⟨skipped.length, hlen⟩ := by
    rw [Nat.zero_add]
    exact Fin.ext (Nat.mod_eq_of_lt hlen)
  rwa [hend] at hwait

/-! ### The token wait -/

/-- The token wait with any bytes before the token the bound allows (rule R155). -/
theorem runsTo_token {tokens : List Byte} {rest : List Answer} (hport : s.port = []) (hpc : s.pc = .tToken 0)
    (htokens : ∀ b ∈ tokens, b ≠ dataToken) (hlim : ∀ l, s.cfg.tokenLimit = some l → tokens.length < l)
    (hcard : s.card = tokens.map .byte ++ .byte dataToken :: rest) :
    RunsTo (tokens.length + 1) s (.bData 0) rest s.mem := by
  have hwait : RunsTo tokens.length s (.tToken (0 + tokens.length)) (.byte dataToken :: rest) s.mem := by
    refine RunsTo.of_wait (tx := filler) (P := .tToken) (m := tokens.length) ?_ hport rfl hpc hcard (by omega)
    intro u n b hb huport hucfg hupc hn hrx
    rw [step_tToken huport hupc]
    refine tokenWait_goes_on hrx (htokens b hb) fun l hl => ?_
    rw [hucfg] at hl
    have := hlim l hl
    omega
  exact hwait.trans fun ix hist => .of_exchange rfl
    ((step_tToken (s := s.ranTo _ _ _ ix hist) hport rfl).trans (tokenWait_ends (rx?_byte rfl) _))

/-! ### The data phase -/

/-- Write a list of bytes to consecutive addresses, in order. -/
def Memory.writeAll : Memory → Nat → List Byte → Memory
  | m, _, [] => m
  | m, a, v :: vs => Memory.writeAll (m.write a v) (a + 1) vs

theorem Memory.read?_writeAll_outside (m : Memory) {a x : Nat} (vs : List Byte) (h : x < a ∨ a + vs.length ≤ x) :
    (m.writeAll a vs).read? x = m.read? x := by
  induction vs generalizing m a with
  | nil => rfl
  | cons v vs ih =>
    rw [List.length_cons] at h
    rw [Memory.writeAll, ih (m.write a v) (by omega), Memory.read?_write_other m v (by omega)]

theorem Memory.read?_writeAll_inside (m : Memory) (a : Nat) {vs : List Byte} {i : Nat} (h : i < vs.length) :
    (m.writeAll a vs).read? (a + i) = vs[i]? := by
  induction vs generalizing m a i with
  | nil => exact absurd h (Nat.not_lt_zero i)
  | cons v vs ih =>
    rw [Memory.writeAll]
    cases i with
    | zero =>
      exact (Memory.read?_writeAll_outside _ vs (.inl (Nat.lt_add_one a))).trans (Memory.read?_write_same m a v)
    | succ i =>
      rw [Nat.add_comm i 1, ← Nat.add_assoc, ih (m.write a v) (a + 1) (Nat.lt_of_succ_lt_succ h), Nat.add_comm 1 i,
        List.getElem?_cons_succ]

/-- The phase in which `n` bytes of the block have been stored. -/
def dataPhase (n : Nat) : Phase := if h : n < 512 then .bData ⟨n, h⟩ else .bCrc 0

/-- The two steps of a data byte: the exchange and the write (rule R213). -/
theorem runsTo_dataByte {n : Nat} {b : Byte} {rest : List Answer} (hn : n < 512) (hport : s.port = [])
    (hpc : s.pc = dataPhase n) (hcard : s.card = .byte b :: rest) :
    RunsTo 2 s (dataPhase (n + 1)) rest (s.mem.write (s.cfg.buf + n) b) := by
  rw [dataPhase, dif_pos hn] at hpc
  have hexchange : RunsTo 1 s (.bWrite ⟨n, hn⟩ b) rest s.mem :=
    .of_exchange hcard (step_bData hport hpc (rx?_byte hcard))
  exact hexchange.trans fun ix hist => ⟨_, _, run_one (step_bWrite (s := s.ranTo _ _ _ ix hist) hport rfl)⟩

/-- The bytes from cell `n` on, to the end of the block, are stored in order (rules R213 and R215). -/
theorem runsTo_data {bs : List Byte} {n : Nat} {rest : List Answer} (hn : n + bs.length = 512) (hport : s.port = [])
    (hpc : s.pc = dataPhase n) (hcard : s.card = bs.map .byte ++ rest) :
    RunsTo (2 * bs.length) s (.bCrc 0) rest (s.mem.writeAll (s.cfg.buf + n) bs) := by
  induction bs generalizing s n with
  | nil =>
    obtain rfl : n = 512 := hn
    obtain rfl : s.card = rest := hcard
    have hrefl := RunsTo.refl s
    rw [hpc] at hrefl
    exact hrefl
  | cons b bs ih =>
    rw [List.length_cons] at hn
    have hfirst : RunsTo 2 s (dataPhase (n + 1)) (bs.map .byte ++ rest) (s.mem.write (s.cfg.buf + n) b) :=
      runsTo_dataByte (by omega) hport hpc hcard
    have hrest : RunsTo (2 + 2 * bs.length) s (.bCrc 0) rest (s.mem.writeAll (s.cfg.buf + n) (b :: bs)) :=
      hfirst.trans fun ix hist =>
        ih (s := s.ranTo (dataPhase (n + 1)) (bs.map .byte ++ rest) (s.mem.write (s.cfg.buf + n) b) ix hist)
          (n := n + 1) (by omega) hport rfl rfl
    rw [List.length_cons, Nat.mul_add, Nat.add_comm]
    exact hrest

/-- Settles O43: the run over the 512 bytes, whose memory the laws of consecutive writes give. -/
theorem dataPhaseFillsTheBuffer : Obligations.DataPhaseFillsTheBuffer := by
  intro s bs rest hport hpc hlen hcard
  obtain ⟨ix, hist, hrun⟩ := runsTo_data (n := 0) (by omega) hport hpc hcard
  rw [hlen] at hrun
  refine ⟨_, hrun, rfl, rfl, fun i hi => ?_, fun a ha => ?_⟩
  · exact Memory.read?_writeAll_inside s.mem s.cfg.buf (by omega)
  · exact Memory.read?_writeAll_outside s.mem bs (by rw [hlen]; exact ha)

/-! ### A whole READ_BLOCK -/

/-- A READ_BLOCK presented to a Ready machine in `Idle` is accepted with its address as it is (rules R100 and R210). -/
theorem step_readBlock_accepted {addr : Word32} (hpc : s.pc = .idle) (hready : s.sess = .ready)
    (hport : s.port = [.present (requestWord 0b10#2 addr)]) (haddr : addr.toNat < 2 ^ s.cfg.addrBits) :
    step s = .next (State.send .cmd17 addr { s with port := [] }) := by
  obtain ⟨-, haccept⟩ := readBlockAcceptedWhenReady { s with port := [] } addr hpc hready
  exact (stepRunsPresentedRequest s _ [] _ hport hpc (decodeRequest_readBlock addr)).trans (haccept haddr)

/-- CMD17's R1 `0x00` begins the token wait (rules R151 and R211). -/
theorem step_readCommand_passes {k : Fin 8} {rest : List Answer} (hport : s.port = []) (hpc : s.pc = .pR1 .cmd17 k)
    (hcard : s.card = .byte 0x00#8 :: rest) :
    step s = .next ((s.ranTo (.tToken 0) rest s.mem (s.oracleIx + 1)
      (.xfer filler 0x00#8 s.profile s.csMode s.csLevel :: s.history)).setR1 0x00#8) := by
  rw [step_pR1 hport hpc, pollR1_ends (rx?_byte hcard) _ (.inl (by decide)), State.afterXfer, hcard]
  rfl

/-- From CMD17's ready-wait to the end of the R1 poll: `0x00` after the frame and any bytes the bounds allow. -/
theorem run_readCommand {busy frame skipped : List Byte} {rest : List Answer} (hport : s.port = [])
    (hpc : s.pc = .sReady .cmd17 0) (hbusy : ∀ b ∈ busy, b ≠ 0xFF#8)
    (hlim : ∀ l, s.cfg.readyLimit = some l → busy.length < l) (hframe : frame.length = 6)
    (hskip : ∀ b ∈ skipped, b.getLsbD 7 = true) (hlen : skipped.length < 8)
    (hcard : s.card = busy.map .byte ++ .byte 0xFF#8 :: (frame.map .byte ++ (skipped.map .byte ++ .byte 0x00#8 :: rest))) :
    ∃ ix hist, Host.Core.run core (busy.length + 1 + 6 + (skipped.length + 1)) s
      = .next ((s.ranTo (.tToken 0) rest s.mem ix hist).setR1 0x00#8) := by
  have hsent : RunsTo (busy.length + 1 + 6) s (.pR1 .cmd17 0) (skipped.map .byte ++ .byte 0x00#8 :: rest) s.mem :=
    (runsTo_readyWait hport hpc hbusy hlim hcard).trans fun ix hist =>
      runsTo_frame (s := s.ranTo _ _ _ ix hist) hport rfl hframe rfl
  obtain ⟨ix, hist, hpoll⟩ := hsent.trans fun ix hist =>
    runsTo_poll (s := s.ranTo _ _ _ ix hist) hport rfl hskip hlen rfl
  rw [← Nat.add_assoc]
  exact ⟨_, _, coreRun_add hpoll (run_one (step_readCommand_passes (by exact hport) rfl rfl))⟩

/-- From the token wait to the second CRC byte: the block is in the buffer (rules R155, R213 and R214). -/
theorem runsTo_block {tokens bs : List Byte} {crc0 : Byte} {rest : List Answer} (hport : s.port = [])
    (hpc : s.pc = .tToken 0) (htokens : ∀ b ∈ tokens, b ≠ dataToken)
    (hlim : ∀ l, s.cfg.tokenLimit = some l → tokens.length < l) (hlen : bs.length = 512)
    (hcard : s.card = tokens.map .byte ++ .byte dataToken :: (bs.map .byte ++ .byte crc0 :: rest)) :
    RunsTo (tokens.length + 1 + 1024 + 1) s (.bCrc 1) rest (s.mem.writeAll s.cfg.buf bs) := by
  have hdata : RunsTo (tokens.length + 1 + 2 * bs.length) s (.bCrc 0) (.byte crc0 :: rest)
      (s.mem.writeAll s.cfg.buf bs) :=
    (runsTo_token hport hpc htokens hlim hcard).trans fun ix hist =>
      runsTo_data (s := s.ranTo _ _ _ ix hist) (n := 0) (by omega) hport rfl rfl
  rw [hlen] at hdata
  exact hdata.trans fun ix hist => .of_exchange rfl
    ((step_bCrc (s := s.ranTo _ _ _ ix hist) hport rfl).trans (crcByte_first (rx?_byte rfl)))

/-- The last CRC byte ends the read, and the next step completes it (rules R214 and R233). -/
theorem run_readBlock_completes {crc1 : Byte} {rest : List Answer} (hport : s.port = []) (hpc : s.pc = .bCrc 1)
    (hcard : s.card = .byte crc1 :: rest) :
    Host.Core.run core 2 s = .next ((s.afterXfer filler crc1).succeed.complete .ok) := by
  have hlast : step s = .next (s.afterXfer filler crc1).succeed :=
    (step_bCrc hport hpc).trans (crcByte_second (rx?_byte hcard))
  exact run_succ hlast (run_one (step_done hport rfl))

/-- Settles O44: the accepted request, the command, the block and the completion, one run after the other. -/
theorem readBlockReadsTheBlock : Obligations.ReadBlockReadsTheBlock := by
  intro s addr busy frame skipped tokens bs crc rest hpc hready hport haddr hbusy hreadyLimit hframe hskip hskipped
    htokens htokenLimit hlen hcrc hcard
  obtain ⟨crc0, crc1, rfl⟩ := List.length_eq_two.mp hcrc
  have haccept := run_one (step_readBlock_accepted hpc hready hport haddr)
  obtain ⟨ix, hist, hcommand⟩ := run_readCommand (s := State.send .cmd17 addr { s with port := [] })
    (rest := tokens.map .byte ++ .byte dataToken :: (bs.map .byte ++ .byte crc0 :: .byte crc1 :: rest))
    rfl rfl hbusy hreadyLimit hframe hskip hskipped (by simpa using hcard)
  obtain ⟨ix', hist', hblock⟩ := runsTo_block
    (s := ((State.send .cmd17 addr { s with port := [] }).ranTo (.tToken 0) _ s.mem ix hist).setR1 0x00#8)
    rfl rfl htokens htokenLimit hlen rfl
  have hrun := coreRun_add (coreRun_add (coreRun_add haccept hcommand) hblock)
    (run_readBlock_completes (crc1 := crc1) (rest := rest) rfl rfl rfl)
  refine ⟨_, _, (congrArg (Host.Core.run core · s) ?_).trans hrun, rfl, rfl, rfl, rfl, rfl, fun i hi => ?_,
    fun a ha => ?_, rfl, rfl, rfl, rfl, rfl, rfl, rfl, rfl, rfl⟩
  · omega
  · exact Memory.read?_writeAll_inside s.mem s.cfg.buf (by omega)
  · exact Memory.read?_writeAll_outside s.mem bs (by rw [hlen]; exact ha)

end Sys2Proof.Machine
end
